-- ==== Sys2Proof/Word.lean ====
section
/-! DEFINITION. The byte type of the links (R206, R207). -/

namespace Sys2Proof

/-- One byte of a link frame. -/
abbrev Byte := BitVec 8

end Sys2Proof
end

