-- ==== Sys2Proof/Syntax.lean ====
section
/-! DEFINITION. The commands: one constructor for each row of spec/opcode_table.json, with the operands a command carries.
A request carries the port it arrives at, its tag and its payload bytes (R207, R208); a WRITE_CONFIG row with a known item
carries the bytes of the value, the row itself naming the item (R209). An event that one block takes from another carries
nothing: the message waits in transit in the state (log 5). -/

namespace Sys2Proof

/-- The three link ports, each with its one master: ULK with UL, SLK with SL, OPT with OP (R191, R194). -/
inductive PortId where
  | ulk | slk | opt
deriving DecidableEq, Repr

/-- The units that give a part to a commit image (R162). -/
inductive UnitId where
  | nau | mfp | cck | tcu | ipu | bfu | ecu | cvm
deriving DecidableEq, Repr

/-- The attention members, in the order of their bits (R202, R210). -/
inductive Member where
  | setpointNotice | directiveChange | profileReady | freezeDone | tamper | timeUnset | interlockOpen | sessionEnded
  | storeFault | measurementLost | restarted
deriving DecidableEq, Repr

/-- How the array answers the operation that completes (R157): a program's first read-back matches, only its second
does, or neither does. For a read, `failed` says that the bytes read fail their check (R119). -/
inductive ArrayResult where
  | good | retried | failed
deriving DecidableEq, Repr

/-- The commands of the part. -/
inductive Instr where
  /-- READ_STATUS (R205). A master reads the status items of every unit and of its own port. -/
  | readStatus (p : PortId) (tag : Byte) (payload : List Byte)
  /-- READ_ATTENTION (R203). A master reads its port's attention set, and every event member returned is removed from the set. -/
  | readAttention (p : PortId) (tag : Byte) (payload : List Byte)
  /-- SET_ATTENTION_MASK (R204). A master replaces its port's attention mask, and the port sets the attention line again. -/
  | setAttentionMask (p : PortId) (tag : Byte) (payload : List Byte)
  /-- LATCH_REGISTERS (R199). When the snapshot latch is EMPTY, the port captures the register table and related values into it; when it is HELD, the port answers ALREADY_HELD. -/
  | latchRegisters (p : PortId) (tag : Byte) (payload : List Byte)
  /-- READ_LATCHED (R200). Returns a named or the next unread part of the snapshot latch, and empties the latch when no part is left unread. -/
  | readLatched (p : PortId) (tag : Byte) (payload : List Byte)
  /-- RELEASE_LATCH (R200). Empties the requester's snapshot latch. -/
  | releaseLatch (p : PortId) (tag : Byte) (payload : List Byte)
  /-- READ_LIVE (R201). Returns the port state and live values from MFP, and the effective limit and interlock from ECU. -/
  | readLive (p : PortId) (tag : Byte) (payload : List Byte)
  /-- ENABLE_WRITE (R196). Sets the requester's write-enable latch. -/
  | enableWrite (p : PortId) (tag : Byte) (payload : List Byte)
  /-- READ_CONFIG (R198). Collects the configuration items, pending values, protection settings and configuration write sequence from their owners. -/
  | readConfig (p : PortId) (tag : Byte) (payload : List Byte)
  /-- WRITE_CONFIG_SLOT_MAP (R37). MFP checks a new slot map and places its configuration write with DSC at priority 5. -/
  | writeConfigSlotMap (p : PortId) (tag : Byte) (payload : List Byte)
  /-- WRITE_CONFIG_NETTING_MODE (R14). NAU checks a new netting mode and places its configuration write with DSC. -/
  | writeConfigNettingMode (p : PortId) (tag : Byte) (payload : List Byte)
  /-- WRITE_CONFIG_INTERVAL_LENGTH (R90). IPU checks a new interval length against the calendars' switch points, or refuses it with BUSY, and otherwise places the write as the length under write. -/
  | writeConfigIntervalLength (p : PortId) (tag : Byte) (payload : List Byte)
  /-- WRITE_CONFIG_BILLING_DAY (R117). BFU range-checks a new billing day and places its configuration write. -/
  | writeConfigBillingDay (p : PortId) (tag : Byte) (payload : List Byte)
  /-- WRITE_CONFIG_STATIC_CONNECTION_LIMIT (R134). ECU range-checks a new static connection limit and places its configuration write. -/
  | writeConfigStaticConnectionLimit (p : PortId) (tag : Byte) (payload : List Byte)
  /-- WRITE_CONFIG_EXPORT_TOLERANCE (R134). ECU range-checks a new export tolerance and places its configuration write. -/
  | writeConfigExportTolerance (p : PortId) (tag : Byte) (payload : List Byte)
  /-- WRITE_CONFIG_GRACE (R134). ECU range-checks a new grace and places its configuration write. -/
  | writeConfigGrace (p : PortId) (tag : Byte) (payload : List Byte)
  /-- WRITE_CONFIG_ACKNOWLEDGEMENT_TIME (R134). ECU range-checks a new acknowledgement time and places its configuration write. -/
  | writeConfigAcknowledgementTime (p : PortId) (tag : Byte) (payload : List Byte)
  /-- WRITE_CONFIG_MINIMUM_OPEN_TIME (R134). ECU range-checks a new minimum open time and places its configuration write. -/
  | writeConfigMinimumOpenTime (p : PortId) (tag : Byte) (payload : List Byte)
  /-- WRITE_CONFIG_UTILITY_THRESHOLD (R101). IPU range-checks a new utility profile-ready threshold and places its configuration write. -/
  | writeConfigUtilityThreshold (p : PortId) (tag : Byte) (payload : List Byte)
  /-- WRITE_CONFIG_SITE_THRESHOLD (R101). IPU range-checks a new site profile-ready threshold and places its configuration write. -/
  | writeConfigSiteThreshold (p : PortId) (tag : Byte) (payload : List Byte)
  /-- WRITE_CONFIG_UNKNOWN_ITEM (R197). A WRITE_CONFIG that names no known item, or whose value has the wrong length, is refused by the port with BAD_ARGUMENT after check 8. -/
  | writeConfigUnknownItem (p : PortId) (tag : Byte) (payload : List Byte)
  /-- READ_TIME (R47). Returns the time, validity, clock generation and calendar form. -/
  | readTime (p : PortId) (tag : Byte) (payload : List Byte)
  /-- SET_TIME (R48). Sets the time, restarts the second phase, makes the clock VALID, advances the generation and gives each owner a SET change. -/
  | setTime (p : PortId) (tag : Byte) (payload : List Byte)
  /-- ADJUST_TIME (R50). Moves the clock by a signed delta, either as a small trim or as an adjustment treated like a set. -/
  | adjustTime (p : PortId) (tag : Byte) (payload : List Byte)
  /-- READ_CALENDAR (R75). Returns one part of the active or the waiting calendar. -/
  | readCalendar (p : PortId) (tag : Byte) (payload : List Byte)
  /-- BEGIN_CALENDAR (R64). Opens a calendar load session with a staged calendar, first withdrawing and erasing any waiting calendar. -/
  | beginCalendar (p : PortId) (tag : Byte) (payload : List Byte)
  /-- LOAD_DAY_PROFILE (R66). Loads one day profile into the staged calendar. -/
  | loadDayProfile (p : PortId) (tag : Byte) (payload : List Byte)
  /-- LOAD_WEEK (R67). Sets entries of the staged week map. -/
  | loadWeek (p : PortId) (tag : Byte) (payload : List Byte)
  /-- LOAD_SPECIAL_DAY (R68). Appends special days to the staged calendar. -/
  | loadSpecialDay (p : PortId) (tag : Byte) (payload : List Byte)
  /-- COMMIT_CALENDAR (R69). Validates the staged calendar and, when every check passes, writes it to the pending-role sector. -/
  | commitCalendar (p : PortId) (tag : Byte) (payload : List Byte)
  /-- ABORT_CALENDAR (R71). Discards the staged calendar and closes the session. -/
  | abortCalendar (p : PortId) (tag : Byte) (payload : List Byte)
  /-- READ_PROFILE (R98). Selects up to n records from the requester's cursor and asks DSC to read them. -/
  | readProfile (p : PortId) (tag : Byte) (payload : List Byte)
  /-- ACK_PROFILE (R99). Moves the requester's reader cursor past an acknowledged append number and clears its skip count. -/
  | ackProfile (p : PortId) (tag : Byte) (payload : List Byte)
  /-- READ_PROFILE_AT (R102). Selects up to n records from a given append number and asks DSC to read them. -/
  | readProfileAt (p : PortId) (tag : Byte) (payload : List Byte)
  /-- FREEZE (R112). Takes a REQUESTED billing freeze when BFU is IDLE, and refuses it with FREEZE_IN_PROGRESS when BFU is CAPTURED. -/
  | freeze (p : PortId) (tag : Byte) (payload : List Byte)
  /-- READ_FROZEN (R119). Selects a frozen set by history index and reads it from the store. -/
  | readFrozen (p : PortId) (tag : Byte) (payload : List Byte)
  /-- POST_DIRECTIVE (R127). Places an export-limit directive in the Directive List, with replacement or eviction, and recomputes the limit. -/
  | postDirective (p : PortId) (tag : Byte) (payload : List Byte)
  /-- CANCEL_DIRECTIVE (R128). Removes a directive by id and recomputes the limit. -/
  | cancelDirective (p : PortId) (tag : Byte) (payload : List Byte)
  /-- UTILITY_HOLD_ON (R146). Turns the utility hold on and makes the interlock HELD. -/
  | utilityHoldOn (p : PortId) (tag : Byte) (payload : List Byte)
  /-- UTILITY_HOLD_OFF (R146). Releases the utility hold, moving the interlock to OPEN_READY or OPEN_WAIT. -/
  | utilityHoldOff (p : PortId) (tag : Byte) (payload : List Byte)
  /-- ACK_SETPOINT (R136). The site acknowledges the current Setpoint Notice, which settles the handshake. -/
  | ackSetpoint (p : PortId) (tag : Byte) (payload : List Byte)
  /-- RECLOSE_REQUEST (R145). The site asks for the interlock to close, which is granted from OPEN_READY when the three conditions hold. -/
  | recloseRequest (p : PortId) (tag : Byte) (payload : List Byte)
  /-- READ_EXPORT_STATUS (R147). Returns the export control state. -/
  | readExportStatus (p : PortId) (tag : Byte) (payload : List Byte)
  /-- READ_DIRECTIVES (R147). Returns the Directive List in list order, with the governing entry marked. -/
  | readDirectives (p : PortId) (tag : Byte) (payload : List Byte)
  /-- CLEAR_REGISTERS (R20). Zeroes the registers, residues and max-demand entries in COMMISSIONING. -/
  | clearRegisters (p : PortId) (tag : Byte) (payload : List Byte)
  /-- SET_PROTECTION (R168). Checks the lock and the cover, then places a configuration write of the protection level and lock. -/
  | setProtection (p : PortId) (tag : Byte) (payload : List Byte)
  /-- CLOSE_COMMISSIONING (R169). Checks the four conditions and programs a lifecycle mark. -/
  | closeCommissioning (p : PortId) (tag : Byte) (payload : List Byte)
  /-- READ_IDENTITY (R170). Returns the serial number, revision code, lifecycle and signature byte. -/
  | readIdentity (p : PortId) (tag : Byte) (payload : List Byte)
  /-- CLEAR_TAMPER (R173). Clears the tamper latch when the cover is CLOSED. -/
  | clearTamper (p : PortId) (tag : Byte) (payload : List Byte)
  /-- RESTART (R186). Makes a commanded restart pending and asks DSC for the commanded image. -/
  | restart (p : PortId) (tag : Byte) (payload : List Byte)
  /-- UNKNOWN_REQUEST_CODE (R193). A frame whose request code is not known is refused at check 3 with BAD_REQUEST. -/
  | unknownRequestCode (p : PortId) (code tag : Byte) (payload : List Byte)
  /-- LINK_FRAME_DISCARDED (R193). A link frame that fails its CRC or length check is discarded with no response and no state change. -/
  | linkFrameDiscarded (p : PortId) (bytes : List Byte)
  /-- MEASUREMENT_FRAME (R26). MFP takes an arriving converter frame and drops it, discards it or accepts it. -/
  | measurementFrame (bytes : List Byte)
  /-- FRAME_DEADLINE_EXPIRY (R32). At expiry of the frame deadline, MFP counts and reports a missed epoch and re-arms the deadline. -/
  | frameDeadlineExpiry
  /-- NAU_EPOCH_INCREMENT (R4). NAU nets an Epoch Increment, carries it into the residues and registers under TCU's band, records the calendar id and forwards a split increment. -/
  | nauEpochIncrement
  /-- ECU_EPOCH_INCREMENT (R139). ECU judges an epoch's net export against the enforced limit while CLOSED and updates the excursion count. -/
  | ecuEpochIncrement
  /-- IPU_SPLIT_INCREMENT (R82). IPU adds a split increment from NAU to the open interval. -/
  | ipuSplitIncrement
  /-- IPU_MISSED_EPOCH_REPORT (R82). IPU adds one missed epoch to the open interval. -/
  | ipuMissedEpochReport
  /-- ECU_MFP_STATE_REPORT (R141). ECU takes MFP's port state into its measurement view, and trips with MEASUREMENT_LOST when the view becomes LOST and the limit is constrained. -/
  | ecuMfpStateReport
  /-- NAU_INTERVAL_CLOSE (R15). NAU takes a close report from IPU and makes any pending netting mode current. -/
  | nauIntervalClose
  /-- MFP_INTERVAL_CLOSE (R38). MFP takes a close report from IPU and sets switch due when a pending map is held. -/
  | mfpIntervalClose
  /-- NAU_DEMAND_REPORT (R16). NAU updates its max-demand entries from an interval demand report. -/
  | nauDemandReport
  /-- CLOCK_ADVANCE (R43). CCK adds one second to the time and tests the armed due slots. -/
  | clockAdvance
  /-- IPU_DUE_EVENT (R86). IPU takes its due event at the slot end and closes the open interval. -/
  | ipuDueEvent
  /-- TCU_DUE_EVENT (R62). TCU activates a waiting calendar whose boundary has passed, decides the band and re-arms. -/
  | tcuDueEvent
  /-- BFU_DUE_EVENT (R111). BFU claims the billing date and takes or defers a scheduled freeze, then re-arms. -/
  | bfuDueEvent
  /-- ECU_DUE_EVENT (R130). ECU handles the deadline, the open-time end and directive starts and ends at the present time, then recomputes and re-arms. -/
  | ecuDueEvent
  /-- IPU_CHANGE_NOTICE (R89). IPU closes the open interval early and opens a new one on SET, ADJUST or WRAP, or flags it CLOCK_ADJUSTED on TRIM. -/
  | ipuChangeNotice
  /-- TCU_CHANGE_NOTICE (R63). TCU recomputes the activation boundary, decides the band and re-arms after a change of time. -/
  | tcuChangeNotice
  /-- BFU_CHANGE_NOTICE (R116). BFU re-arms under the new time and validity after a change of time. -/
  | bfuChangeNotice
  /-- ECU_CHANGE_NOTICE (R131). ECU carries its elapsed-time deadlines across the change, handles validity, recomputes and re-arms. -/
  | ecuChangeNotice
  /-- IPU_BAND_NOTICE (R84). IPU sets the open interval's band when the notice's time lies within it. -/
  | ipuBandNotice
  /-- IPU_ACTIVATION_NOTICE (R85). IPU flags CALENDAR_CHANGED on the open interval or sets the calendar-change hold. -/
  | ipuActivationNotice
  /-- IPU_INTERLOCK_REPORT (R83). IPU updates its interlock view and flags CURTAILED when the interlock has left CLOSED. -/
  | ipuInterlockReport
  /-- IPU_TAMPER_REPORT (R83). IPU adds TAMPER to the open interval on CVM's report of an opening. -/
  | ipuTamperReport
  /-- TCU_INTERVAL_LENGTH_REPORT (R73). TCU recomputes the activation boundary when IPU reports that a new interval length has taken effect. -/
  | tcuIntervalLengthReport
  /-- SESSION_TIMER_EXPIRY (R72). The calendar load session times out, the staged calendar is dropped and SESSION_ENDED is raised. -/
  | sessionTimerExpiry
  /-- COVER_OPENING (R172). CVM records the cover opening, sets the tamper latch and reports to IPU or holds the report. -/
  | coverOpening
  /-- COVER_CLOSING (R171). The cover state becomes CLOSED and the protection lock is in force again. -/
  | coverClosing
  /-- PORT_COVER_REPORT (R195). The Optical Port takes a cover report, gaining or losing its configuration rights and clearing its write-enable latch on a closing. -/
  | portCoverReport
  /-- ATTENTION_REPORT (R202). A port adds or removes an attention member on a unit's report and sets its attention line again. -/
  | attentionReport (p : PortId) (m : Member)
  /-- ARRAY_GRANT (R156). DSC grants the array to the head of its client queue for a burst of up to four operations. -/
  | arrayGrant
  /-- UNIT_IMAGE_PART (R162). A unit gives DSC its durable part of a commit image as one event. -/
  | unitImagePart (u : UnitId)
  /-- OPERATION_COMPLETION (R153). A program, erase or read on the array completes, and programs are verified. -/
  | operationCompletion (r : ArrayResult)
  /-- PROFILE_APPEND_SETTLED (R94). IPU takes the completion or refusal of a profile append and settles the head of the append queue. -/
  | profileAppendSettled
  /-- PROFILE_ERASE_GRANT (R96). At the erase grant, IPU removes the sector's records from the ring and advances the cursors with their skip counts. -/
  | profileEraseGrant
  /-- PROFILE_ERASE_OUTCOME (R95). IPU takes the completion or refusal of a profile erase. -/
  | profileEraseOutcome
  /-- PROFILE_READ_COMPLETION (R98). IPU answers a READ_PROFILE or READ_PROFILE_AT with the records still in the ring. -/
  | profileReadCompletion
  /-- FROZEN_SET_WRITE_COMPLETION (R114). The captured set joins the history, BFU becomes IDLE, FREEZE_DONE is raised and any deferred freeze is taken. -/
  | frozenSetWriteCompletion
  /-- FROZEN_SET_WRITE_REFUSAL (R115). BFU stays CAPTURED and advances its write position when the set's program is refused. -/
  | frozenSetWriteRefusal
  /-- FROZEN_SET_ERASE_GRANT (R118). The sets of the sector being erased leave BFU's history view. -/
  | frozenSetEraseGrant
  /-- FROZEN_SET_ERASE_OUTCOME (R118). BFU takes the completion or refusal of its erase-ahead and hands on a waiting captured set. -/
  | frozenSetEraseOutcome
  /-- FROZEN_READ_COMPLETION (R119). BFU answers READ_FROZEN with the set read, or marks it absent. -/
  | frozenReadCompletion
  /-- CALENDAR_DISCARD_ERASE_OUTCOME (R64). TCU opens the session after the discard erase completes, or restores the waiting calendar when it is refused. -/
  | calendarDiscardEraseOutcome
  /-- CALENDAR_COMMIT_WRITE_OUTCOME (R70). The written calendar becomes the waiting calendar with its activation boundary, or the write is refused. -/
  | calendarCommitWriteOutcome
  /-- NETTING_MODE_WRITE_COMPLETION (R14). NAU takes a completed netting-mode write as the pending mode or clears the pending mode. -/
  | nettingModeWriteCompletion
  /-- SLOT_MAP_WRITE_COMPLETION (R37). MFP takes a completed slot-map write as the pending map and clears switch due. -/
  | slotMapWriteCompletion
  /-- INTERVAL_LENGTH_WRITE_COMPLETION (R90). IPU re-checks alignment and makes the value pending, or asks for a write that puts back the old length. -/
  | intervalLengthWriteCompletion
  /-- INTERVAL_LENGTH_RESTORE_COMPLETION (R90). The put-back write completes and the length write is refused with MISALIGNED_SWITCH. -/
  | intervalLengthRestoreCompletion
  /-- BILLING_DAY_WRITE_COMPLETION (R117). BFU takes the new billing day, may advance the last scheduled freeze date, and re-arms. -/
  | billingDayWriteCompletion
  /-- ECU_CONFIG_WRITE_COMPLETION (R134). ECU takes a completed write of one of its five items, recomputing at once for the static limit. -/
  | ecuConfigWriteCompletion
  /-- THRESHOLD_WRITE_COMPLETION (R101). IPU puts a completed profile-ready threshold write in force. -/
  | thresholdWriteCompletion
  /-- PROTECTION_WRITE_COMPLETION (R168). The protection level and lock take the written values. -/
  | protectionWriteCompletion
  /-- LIFECYCLE_MARK_COMPLETION (R169). When the lifecycle mark's marker verifies, the lifecycle becomes IN_SERVICE. -/
  | lifecycleMarkCompletion
  /-- COMMANDED_IMAGE_COMPLETION (R186). SSV answers RESTART and enters START in phase RESTORING, or clears the request when it is refused. -/
  | commandedImageCompletion
  /-- MAINS_GOOD (R177). The mains-good indication becomes good, starting the gating from BACKUP or power-on. -/
  | mainsGood
  /-- MAINS_FAIL (R179). The mains-good indication ceases, moving MAINS to HOLDUP with the hold-up commit ordered, or START to BACKUP. -/
  | mainsFail
  /-- HOLDUP_COMMIT_END (R181). DSC reports the hold-up commit complete or failed, and SSV moves to MAINS or BACKUP by the mains view. -/
  | holdupCommitEnd
  /-- SUPPLY_END (R183). Every supply but the cell ends, and SSV enters BACKUP, losing all state held on mains. -/
  | supplyEnd
  /-- GATING_TIMER_EXPIRY (R178). After 2 s of good mains, SSV judges the cell and begins the restore. -/
  | gatingTimerExpiry
  /-- EXTERNAL_RESET (R187). The external reset line starts a RESET_INPUT restart from MAINS, or begins the restore again in START. -/
  | externalReset
  /-- RESUMPTION (R188). After the write step ends, SSV gives each unit the resumption notice. -/
  | resumption
  /-- IPU_RESUMPTION (R106). IPU resumes or closes the saved interval, or opens a new one, according to the restart kind. -/
  | ipuResumption
  /-- TCU_RESUMPTION (R78). TCU computes the activation boundary, decides the band and arms its due slot. -/
  | tcuResumption
  /-- BFU_RESUMPTION (R122). BFU takes a deferred freeze when IDLE and re-arms for the billing day. -/
  | bfuResumption
  /-- ECU_RESUMPTION (R150). ECU brings the list to the present time, computes the limits, re-issues notices and restores the interlock. -/
  | ecuResumption
  /-- SERVICE_ENTRY (R188). SSV enters MAINS, the ports answer requests and raise RESTARTED, and MFP takes frames. -/
  | serviceEntry
  /-- CVM_RESUMPTION (R174). At the resumption of units after a restart, CVM reports an opening held in its unpowered-opening flag to IPU and clears the flag. -/
  | cvmResumption
  /-- RETENTION_MARK_LOST (R178). The backup cell can no longer keep the cell domain running, so the retention mark and everything held on the cell, including the hold-up record, are lost. -/
  | retentionMarkLost
deriving DecidableEq, Repr

end Sys2Proof
end

