-- ==== Sys2Proof/Decode.lean ====
section
/-! DEFINITION. The decoder the host asks for: the opcode table gives no row any bits, so no word spells a command. -/

namespace Sys2Proof

/-- The command a word spells by the bits of spec/opcode_table.json: none, for no row has bits there. -/
def decodeTableWord (_nbits _w : Nat) : Option Instr := none

end Sys2Proof
end

