-- ==== Sys2Proof/Config.lean ====
section
/-! DEFINITION. What the spec fixes once as a number, what each part fixes at manufacture, and the free values. -/

namespace Sys2Proof

/-- What an interrupted array operation leaves in one slot of its extent (R175, R183, R190: "the bytes they had
reached stay as they are"): the slot as it stood, the slot as the operation would have left it, or neither. -/
inductive Remnant where
  | untouched
  | finished
  | torn
deriving DecidableEq, Repr, Inhabited

namespace Config

/-- The latest time the clock holds, 2136-02-07 06:28:15 (R42, R43). -/
def maxTime : Nat := 4294967295

/-- The largest value of a 32-bit sequence, counter or append number (R93, R108, R125, R165). -/
def maxSequence : Nat := 4294967295

/-- A settlement register wraps at this many Wh (R11). -/
def wrapWh : Nat := 10000000000

/-- Saturation of an interval's import and export, mWh (R80, R82). -/
def maxIntervalEnergy : Nat := 540000000

/-- Saturation of an interval's generation, mWh (R80, R82). -/
def maxIntervalGeneration : Nat := 180000000

/-- Time that passes in one step on an empty queue, ms. DESIGN CHOICE (log 3). -/
def tickMs : Nat := 1

/-- From an accepted frame to the first deadline, ms of MFP's timer (R32, R36). -/
def firstDeadlineMs : Nat := 1500

/-- From one deadline expiry to the next, ms (R32, R33). -/
def nextDeadlineMs : Nat := 1000

/-- The calendar load session's idle time, ms (R64, R65). -/
def sessionMs : Nat := 300000

/-- The start-gating time, ms (R178). -/
def gatingMs : Nat := 2000

/-- The longest payload of a link frame, bytes (R207). -/
def maxPayload : Nat := 1024

/-- Slots of the profile region: 33 sectors of 128 interval records (R152). -/
def profileSlots : Nat := 4224

/-- The serial number, programmed at manufacture (R152, R218): each part has its own. -/
opaque serialNumber : BitVec 64

/-- The hardware revision code, programmed at manufacture (R152, R218). -/
opaque revisionCode : BitVec 16

/-- FREE VALUE (log 11): what the n-th interrupted array operation left in one slot of its extent. -/
opaque remnant (n slot : Nat) : Remnant

/-- FREE VALUE (log 8): which of the blocks that ports have asked answers next; the spec gives their answers no order. -/
opaque turn (n : Nat) : Nat

end Config
end Sys2Proof
end

