-- ==== Sys2Proof/Machine/State.lean ====
section
/-! DEFINITION. The state of the TN4130: every item the spec gives each of its eleven blocks, the array, the messages in
transit between blocks, the output pins, and the queue of waiting commands. Plain data throughout. -/

namespace Sys2Proof.Machine

/-! ## Values shared by several blocks -/

/-- Six like items, one for each tariff band 1 to 6 (R1, R2). -/
structure PerBand (α : Type) where
  b1 : α
  b2 : α
  b3 : α
  b4 : α
  b5 : α
  b6 : α
deriving DecidableEq, Repr

/-- A date (R44). -/
structure Date where
  year : Nat
  month : Nat
  day : Nat
deriving DecidableEq, Repr

/-- SUMMED or PER_PHASE (section 1.4, R5, R6). -/
inductive NettingMode where
  | summed | perPhase
deriving DecidableEq, Repr

/-- The role of a measurement slot (R28). -/
inductive Role where
  | unused | phaseA | phaseB | phaseC | gen
deriving DecidableEq, Repr

/-- A role for each of slots 1 to 7 (R25, R28). -/
structure SlotMap where
  s1 : Role
  s2 : Role
  s3 : Role
  s4 : Role
  s5 : Role
  s6 : Role
  s7 : Role
deriving DecidableEq, Repr

/-- Every slot NONE (R40, R166). -/
def SlotMap.allUnused : SlotMap := ⟨.unused, .unused, .unused, .unused, .unused, .unused, .unused⟩

/-- MFP's port state (R25). -/
inductive MfpState where
  | idle | locked | lost
deriving DecidableEq, Repr

/-- A cover position (R171). -/
inductive Cover where
  | closed | opened
deriving DecidableEq, Repr

/-- State of an erase-ahead at its owner (R79, R108). -/
inductive EraseState where
  | idle | requested | granted
deriving DecidableEq, Repr

/-- One slot of the array that is not erased: partly programmed or not valid, or holding a valid record (R152, R153, R212). -/
inductive Written (α : Type) where
  | torn
  | whole (record : α)
deriving DecidableEq, Repr

/-- The slots of one region that are not erased, by slot number, in canonical form: numbers strictly rising (log 9). -/
abbrev Region (α : Type) := List (Nat × Written α)

/-- The request an owner still owes an answer: the port it came from and that port's serial number for it (log 22). -/
structure Origin where
  port : PortId
  serial : Nat
deriving DecidableEq, Repr

/-! ## NAU (chapter 1) -/

/-- The fifteen energy registers, Wh (R1). -/
structure Registers where
  imp : PerBand Nat
  exp : PerBand Nat
  totalImp : Nat
  totalExp : Nat
  gen : Nat
deriving DecidableEq, Repr

/-- The three residues, mWh (R1). -/
structure Residues where
  imp : Nat
  exp : Nat
  gen : Nat
deriving DecidableEq, Repr

/-- A max-demand entry (R2): empty when the demand is 0 and the end time absent. -/
structure Demand where
  watts : Nat
  endTime : Option Nat
deriving DecidableEq, Repr

/-- The seven max-demand entries (R2). -/
structure Demands where
  imp : PerBand Demand
  exp : Demand
deriving DecidableEq, Repr

/-- The Settlement Register Table (R1 to R3). -/
structure Table where
  regs : Registers
  res : Residues
  demands : Demands
  calendarId : Option Nat
deriving DecidableEq, Repr

/-- NAU's state, all of which is its part of a commit image (R19). -/
structure Nau where
  table : Table
  mode : NettingMode
  pendingMode : Option NettingMode
deriving DecidableEq, Repr

/-- An Epoch Increment (R4, R36). -/
structure Increment where
  a : Option Int
  b : Option Int
  c : Option Int
  gen : Option Nat
  missed : Nat
  fault : Bool
deriving DecidableEq, Repr

/-- A split increment (R12). -/
structure Split where
  imp : Nat
  exp : Nat
  gen : Option Nat
  fault : Bool
  missed : Nat
deriving DecidableEq, Repr

/-- An interval demand report (R88). -/
structure DemandReport where
  band : Nat
  imp : Nat
  exp : Nat
  endTime : Nat
deriving DecidableEq, Repr

/-! ## MFP (chapter 2) -/

/-- The contents of the last accepted frame (R25, R35, R36). -/
structure Live where
  a : Option Int
  b : Option Int
  c : Option Int
  gen : Option Nat
  voltA : Bool
  voltB : Bool
  voltC : Bool
  fault : Bool
deriving DecidableEq, Repr

/-- MFP's state (R25). Moments are in ms of MFP's own timer; `collecting` holds the bytes of a frame not yet whole, from its
marker on (R211). -/
structure Mfp where
  port : MfpState
  map : SlotMap
  pendingMap : Option SlotMap
  switchDue : Bool
  expected : Option Nat
  rebase : Bool
  deadline : Option Nat
  misses : Nat
  reported : Nat
  lastAccept : Option Nat
  live : Option Live
  timer : Nat
  collecting : List Byte
deriving DecidableEq, Repr

/-- MFP's part of a commit image (R41). -/
structure MfpPart where
  map : SlotMap
  pendingMap : Option SlotMap
deriving DecidableEq, Repr

/-! ## CCK (chapter 3) -/

/-- An owner of a due slot (R42). -/
inductive Owner where
  | ipu | tcu | bfu | ecu
deriving DecidableEq, Repr

/-- The four due slots (R42). -/
structure DueSlots where
  ipu : Option Nat
  tcu : Option Nat
  bfu : Option Nat
  ecu : Option Nat
deriving DecidableEq, Repr

/-- CCK's state (R42). `valid` is the validity: true for VALID. -/
structure Cck where
  time : Nat
  phaseMs : Nat
  valid : Bool
  gen : Nat
  due : DueSlots
deriving DecidableEq, Repr

/-- CCK's part of a commit image (R55). -/
structure CckPart where
  time : Nat
  valid : Bool
  gen : Nat
deriving DecidableEq, Repr

/-- How a due time was reached (R51). -/
inductive Reached where
  | byAdvance | byChange
deriving DecidableEq, Repr

/-- A due event (R51). -/
structure Due where
  due : Nat
  present : Nat
  gen : Nat
  how : Reached
deriving DecidableEq, Repr

/-- The kind of a change of time (R52). -/
inductive ChangeKind where
  | set | adjust | trim | wrap
deriving DecidableEq, Repr

/-- A change notice (R52). The validity before the change stands beside the one after it, because R131 tests the change. -/
structure Notice where
  kind : ChangeKind
  oldTime : Nat
  newTime : Nat
  oldGen : Nat
  newGen : Nat
  oldValid : Bool
  newValid : Bool
deriving DecidableEq, Repr

/-- What CCK sends an owner, in order (R52). -/
inductive ClockMail where
  | notice (n : Notice)
  | due (d : Due)
deriving DecidableEq, Repr

/-! ## TCU (chapter 4) -/

/-- A switch point: a minute of the day and a band (R57). -/
structure SwitchPoint where
  minute : Nat
  band : Nat
deriving DecidableEq, Repr

/-- A special day (R57). -/
structure SpecialDay where
  month : Nat
  day : Nat
  year : Option Nat
  profile : Nat
deriving DecidableEq, Repr

/-- A calendar, staged or committed (R57). -/
structure Calendar where
  id : Nat
  defaultBand : Nat
  activation : Nat
  profiles : Vector (Option (List SwitchPoint)) 8
  week : Vector (Option Nat) 7
  specials : List SpecialDay
deriving DecidableEq, Repr

/-- A calendar record: a calendar with its store write sequence (R76). -/
structure CalendarRecord where
  calendar : Calendar
  seq : Nat
deriving DecidableEq, Repr

/-- The second calendar position (R56): EMPTY, LOADING with the staged calendar, WAITING with the waiting one. -/
inductive PendingSlot where
  | empty
  | loading (staged : Calendar)
  | waiting (record : CalendarRecord)
deriving DecidableEq, Repr

/-- The calendar-region write TCU waits for (R56). DISCARD_ERASE keeps what a refusal puts back (R64); COMMIT_WRITE keeps
the sequence given to the write and the calendar that R69 validated and TCU writes (R57, R70). -/
inductive StoreAction where
  | idle
  | discardErase (withdrawn : CalendarRecord) (discardedBefore : Nat)
  | commitWrite (seq : Nat) (written : Calendar)
deriving DecidableEq, Repr

/-- TCU's state (R56, R76). `activeSector` is 3 or 4; `markOwed` is R77's mark to program once units resume. -/
structure Tcu where
  active : Option CalendarRecord
  slot : PendingSlot
  boundary : Option Nat
  sessionMs : Option Nat
  action : StoreAction
  discarded : Nat
  nextSeq : Nat
  band : Nat
  activeSector : Nat
  markOwed : Bool
deriving DecidableEq, Repr

/-- TCU's part of a commit image (R77). -/
structure TcuPart where
  activeSeq : Option Nat
  discarded : Nat
  nextSeq : Nat
deriving DecidableEq, Repr

/-- A band notice (R60). -/
structure BandNotice where
  band : Nat
  time : Nat
deriving DecidableEq, Repr

/-- An activation notice (R60, R74). -/
structure ActivationNotice where
  boundary : Nat
  calendarId : Nat
deriving DecidableEq, Repr

/-! ## IPU (chapter 5) -/

/-- The twelve quality flags (R80, R213). -/
structure Quality where
  partialInterval : Bool
  clockAdjusted : Bool
  timeInvalid : Bool
  measurementGap : Bool
  converterFault : Bool
  supplyLoss : Bool
  tamper : Bool
  curtailed : Bool
  calendarChanged : Bool
  registerRollback : Bool
  resetInput : Bool
  genAbsent : Bool
deriving DecidableEq, Repr

/-- No flag set. -/
def Quality.none : Quality :=
  ⟨false, false, false, false, false, false, false, false, false, false, false, false⟩

/-- The open interval (R80). -/
structure OpenInterval where
  slotStart : Nat
  slotEnd : Nat
  start : Nat
  gen : Nat
  band : Nat
  imp : Nat
  exp : Nat
  generation : Option Nat
  missed : Nat
  flags : Quality
deriving DecidableEq, Repr

/-- An interval record (R87). -/
structure IntervalRecord where
  number : Nat
  start : Nat
  gen : Nat
  band : Nat
  duration : Nat
  imp : Nat
  exp : Nat
  generation : Option Nat
  missed : Option Nat
  flags : Quality
deriving DecidableEq, Repr

/-- One retained record of the Profile Ring: its append number and its slot 0..4,223 of the profile region. -/
structure RingEntry where
  number : Nat
  pos : Nat
deriving DecidableEq, Repr

/-- One reader (R79). -/
structure Reader where
  cursor : Nat
  skip : Nat
  ready : Nat
  threshold : Nat
deriving DecidableEq, Repr

/-- IPU's state (R79). `interlockClosed` and `valid` are its two views; `numbersSpent` says that the last append number
has been given (R93); `savedAt` is the image's time while a saved interval waits for the resumption (R106). -/
structure Ipu where
  length : Nat
  pendingLength : Option Nat
  underWrite : Option Nat
  interval : Option OpenInterval
  calendarHold : Bool
  supplyMark : Option Nat
  owedRollback : Bool
  owedReset : Bool
  interlockClosed : Bool
  valid : Bool
  nextNumber : Nat
  numbersSpent : Bool
  queue : List IntervalRecord
  handed : Bool
  writePos : Nat
  erase : EraseState
  ring : List RingEntry
  utility : Reader
  site : Reader
  savedAt : Option Nat
deriving DecidableEq, Repr

/-- IPU's part of a commit image (R104). The readers' ready counts are not in it. DESIGN CHOICE (log 30): `numbersSpent`, that
the last append number has been given (R93), is no item of R104's list, and the model's image carries it. -/
structure IpuPart where
  interval : Option OpenInterval
  length : Nat
  pendingLength : Option Nat
  utilityThreshold : Nat
  siteThreshold : Nat
  nextNumber : Nat
  numbersSpent : Bool
  calendarHold : Bool
  supplyMark : Option Nat
  queue : List IntervalRecord
  utilityCursor : Nat
  utilitySkip : Nat
  siteCursor : Nat
  siteSkip : Nat
deriving DecidableEq, Repr

/-! ## BFU (chapter 6) -/

/-- The cause of a freeze (R109). -/
inductive FreezeCause where
  | scheduled | requested
deriving DecidableEq, Repr

/-- A frozen set (R109). -/
structure FrozenSet where
  number : Nat
  time : Nat
  gen : Nat
  cause : FreezeCause
  billingDate : Option Date
  timeInvalid : Bool
  calendarId : Option Nat
  regs : Registers
  demands : Demands
deriving DecidableEq, Repr

/-- One set of the frozen history view: its number, its page slot 0..31, and whether a read of it has failed (R119). -/
structure HistoryEntry where
  number : Nat
  pos : Nat
  failed : Bool
deriving DecidableEq, Repr

/-- BFU's state (R108). CAPTURED holds exactly while `captured` is present. `handed` says that the captured set's program
has been asked of DSC (R110). -/
structure Bfu where
  billingDay : Nat
  captured : Option FrozenSet
  deferred : Bool
  counter : Nat
  lastDate : Option Date
  history : List HistoryEntry
  writePos : Nat
  erase : EraseState
  handed : Bool
deriving DecidableEq, Repr

/-- BFU's part of a commit image (R121). -/
structure BfuPart where
  billingDay : Nat
  captured : Option FrozenSet
  deferred : Bool
  counter : Nat
  lastDate : Option Date
deriving DecidableEq, Repr

/-! ## ECU (chapter 7) -/

/-- A directive (R125). `active` is its state: true for ACTIVE. -/
structure Directive where
  id : Nat
  limit : Nat
  start : Nat
  stop : Option Nat
  priority : Nat
  seq : Nat
  active : Bool
deriving DecidableEq, Repr

/-- The setpoint handshake (R124). -/
inductive Handshake where
  | settled | notified | overdue
deriving DecidableEq, Repr

/-- The interlock (R142). -/
inductive Interlock where
  | closed | openWait | openReady | held
deriving DecidableEq, Repr

/-- The interlock cause (R124). -/
inductive Cause where
  | none | overLimit | overdueExcess | measurementLost | utilityHold
deriving DecidableEq, Repr

/-- The five configuration items of ECU (R124). -/
structure EcuConfig where
  staticLimit : Nat
  tolerance : Nat
  grace : Nat
  ackTime : Nat
  minOpen : Nat
deriving DecidableEq, Repr

/-- ECU's state (R124). The enforced limit is computed (R138). `governing` is the governing entry's id and post sequence. -/
structure Ecu where
  list : List Directive
  nextSeq : Nat
  config : EcuConfig
  governing : Option (Nat × Nat)
  effective : Nat
  notice : Nat
  noticeLimit : Nat
  handshake : Handshake
  settled : Nat
  deadline : Option Nat
  excursion : Nat
  interlock : Interlock
  cause : Cause
  hold : Bool
  openEnd : Option Nat
  view : MfpState
deriving DecidableEq, Repr

/-- ECU's part of a commit image (R149). -/
structure EcuPart where
  list : List Directive
  nextSeq : Nat
  config : EcuConfig
  notice : Nat
  noticeLimit : Nat
  handshake : Handshake
  settled : Nat
  interlock : Interlock
  cause : Cause
  hold : Bool
deriving DecidableEq, Repr

/-- What MFP sends ECU, in order (R34, R141). -/
inductive EcuMail where
  | port (st : MfpState)
  | epoch (inc : Increment)
deriving DecidableEq, Repr

/-! ## DSC (chapter 8) -/

/-- A configuration record's values (R166). `seq` is its write sequence, 0 for the defaults held without a record. -/
structure ConfigRecord where
  seq : Nat
  map : SlotMap
  mode : NettingMode
  length : Nat
  billingDay : Nat
  ecu : EcuConfig
  utilityThreshold : Nat
  siteThreshold : Nat
  level : Nat
  lock : Bool
deriving DecidableEq, Repr

/-- One item of the configuration record with a value (R166, R168, R197). -/
inductive ConfigWrite where
  | slotMap (m : SlotMap)
  | netting (m : NettingMode)
  | length (minutes : Nat)
  | billingDay (day : Nat)
  | staticLimit (w : Nat)
  | tolerance (w : Nat)
  | grace (epochs : Nat)
  | ackTime (seconds : Nat)
  | minOpen (seconds : Nat)
  | utilityThreshold (records : Nat)
  | siteThreshold (records : Nat)
  | protection (level : Nat) (lock : Bool)
deriving DecidableEq, Repr

/-- The cause in a commit image's header (R162). -/
inductive ImageCause where
  | routine | holdup | commanded
deriving DecidableEq, Repr

/-- A commit image (R162). -/
structure CommitImage where
  seq : Nat
  cause : ImageCause
  nau : Nau
  mfp : MfpPart
  cck : CckPart
  tcu : TcuPart
  ipu : IpuPart
  bfu : BfuPart
  ecu : EcuPart
  tamper : Bool
deriving DecidableEq, Repr

/-- An image being gathered: the parts its units have given so far (R161, R163). -/
structure Gather where
  request : Nat
  cause : ImageCause
  nau : Option Nau
  mfp : Option MfpPart
  cck : Option CckPart
  tcu : Option TcuPart
  ipu : Option IpuPart
  bfu : Option BfuPart
  ecu : Option EcuPart
  tamper : Option Bool
deriving DecidableEq, Repr

/-- Identity page (R152, R170, R218). -/
structure Identity where
  serialNumber : BitVec 64
  revision : BitVec 16
deriving DecidableEq, Repr

/-- A calendar sector (R76): the record's page pair and the activation mark's page. -/
structure CalendarSector where
  record : Option (Written CalendarRecord)
  mark : Option (Written Unit)
deriving DecidableEq, Repr

/-- The non-volatile array, region by region (R152, log 9). The identity page is absent when it fails its check. Slots:
marks 1..15 (pages of sector 0), configuration pages 0..31, frozen-set slots 0..31, image slots 0..31, record slots
0..4,223. -/
structure Store where
  identity : Option Identity
  marks : Region Unit
  config : Region ConfigRecord
  calendar3 : CalendarSector
  calendar4 : CalendarSector
  frozen : Region FrozenSet
  images : Region CommitImage
  profile : Region IntervalRecord
deriving DecidableEq, Repr

/-- What a PROGRAM writes (R153): the body of a record that carries a marker, in parts, or its marker, which makes it
valid; or a whole interval record. -/
inductive Program where
  | configBody (page : Nat)
  | configMarker (page : Nat) (record : ConfigRecord)
  | calendarBody (sector part : Nat)
  | calendarMarker (sector : Nat) (record : CalendarRecord)
  | activationMark (sector : Nat)
  | frozenBody (slot : Nat)
  | frozenMarker (slot : Nat) (set : FrozenSet)
  | imagePage (slot page : Nat)
  | imageMarker (slot : Nat) (image : CommitImage)
  | intervalRecord (slot : Nat) (record : IntervalRecord)
  | lifecycleBody (page : Nat)
  | lifecycleMarker (page : Nat)
deriving DecidableEq, Repr

/-- An operation on the array (R153). A READ names the slots it reads. -/
inductive ArrayOp where
  | program (p : Program)
  | erase (sector : Nat)
  | readRecords (slots : List Nat)
  | readFrozen (slot : Nat)
deriving DecidableEq, Repr

/-- Who placed a request in the client queue, with what its report carries (R155, R156). -/
inductive Client where
  | holdup
  | routineImage
  | commandedImage (o : Origin)
  | imageErase
  | frozenWrite
  | frozenErase (sector : Nat)
  | append
  | profileErase (sector : Nat)
  | calendarErase (o : Origin)
  | calendarWrite (seq : Nat) (o : Origin)
  | calendarMark
  | config (w : ConfigWrite) (o : Origin)
  | lengthWrite (minutes before : Nat) (o : Origin)
  | lengthRestore (before : Nat) (o : Origin)
  | lifecycleMark (o : Origin)
  | profileRead (fromCursor : Bool) (selected : List Nat) (o : Origin)
  | frozenRead (number : Nat) (o : Origin)
deriving DecidableEq, Repr

/-- A request of the client queue (R155). `ops` are its operations not yet completed; `built` is false until an image or a
configuration write gets its operations at its first grant (R163, R166); `dropped` marks an image cut short (R160). -/
structure StoreRequest where
  id : Nat
  priority : Nat
  client : Client
  ops : List ArrayOp
  built : Bool
  dropped : Bool
  records : List IntervalRecord
  set : Option FrozenSet
deriving DecidableEq, Repr

/-- An operation on the array with the request it belongs to (R154). -/
structure InFlight where
  request : Nat
  op : ArrayOp
deriving DecidableEq, Repr

/-- The grant under way: the request and how many operations of its burst have run (R156). -/
structure Grant where
  request : Nat
  used : Nat
deriving DecidableEq, Repr

/-- What DSC reports to a client (R156). -/
inductive StoreEvent where
  | granted | completed | refused
deriving DecidableEq, Repr

/-- A report of DSC in transit to its client. A read's completion carries what was read. -/
structure StoreMail where
  client : Client
  event : StoreEvent
  records : List IntervalRecord
  set : Option FrozenSet
deriving DecidableEq, Repr

/-- COMMISSIONING or IN_SERVICE (R169). -/
inductive Lifecycle where
  | commissioning | inService
deriving DecidableEq, Repr

/-- DSC's state (R154, R161, R164, R166). `fault` is the store state FAULT; the other store states are computed. -/
structure Dsc where
  fault : Bool
  inFlight : Option InFlight
  suspended : Option InFlight
  grant : Option Grant
  gather : Option Gather
  queue : List StoreRequest
  imageWanted : Bool
  nextSlot : Nat
  nextSeq : Nat
  seqSpent : Bool
  awaitsErase : Bool
  held : ConfigRecord
  lastPage : Option Nat
  level : Nat
  lock : Bool
  lifecycle : Lifecycle
  alarm : Bool
  identity : Option Identity
  nextId : Nat
deriving DecidableEq, Repr

/-! ## SSV (chapter 9) and CVM (section 8.9) -/

/-- The supply states (R176). -/
inductive Supply where
  | start | mains | holdup | backup
deriving DecidableEq, Repr

/-- The restart phase, present in START only (R176). -/
inductive Phase where
  | gating | restoring
deriving DecidableEq, Repr

/-- The five restart kinds (R185). -/
inductive RestartKind where
  | cold | imageLost | supply | commanded | resetInput
deriving DecidableEq, Repr

/-- The cause of a restart (R185). -/
inductive RestartCause where
  | mainsReturn | commandedImage | externalReset
deriving DecidableEq, Repr

/-- The hold-up record (R176). -/
inductive HoldupRecord where
  | none
  | ordered
  | numbered (seq : Nat)
  | complete (seq : Nat)
  | failed (seq : Nat)
deriving DecidableEq, Repr

/-- The resumption notices given and not yet taken (R188). -/
structure Owed where
  ipu : Bool
  tcu : Bool
  bfu : Bool
  ecu : Bool
  cvm : Bool
deriving DecidableEq, Repr

/-- SSV's state (R176, R178, R185, R188). `mainsGood` is the mains view, `cellGood` the cell status, `gatingMs` the
start-gating timer, `retention` the retention mark; `writeStep` says that the restore's write step has not ended and
`resumed` that the resumption notices have been given. -/
structure Ssv where
  supply : Supply
  mainsGood : Bool
  gatingMs : Option Nat
  phase : Option Phase
  kind : RestartKind
  cellGood : Bool
  record : HoldupRecord
  commanded : Option Origin
  retention : Bool
  cause : RestartCause
  writeStep : Bool
  resumed : Bool
  owed : Owed
deriving DecidableEq, Repr

/-- CVM's state (R171). -/
structure Cvm where
  cover : Cover
  tamper : Bool
  unpowered : Bool
deriving DecidableEq, Repr

/-- What DSC reports to SSV (R163, R181); the report on a commanded image names the RESTART that asked for it (R186). -/
inductive SsvMail where
  | commandedImage (o : Origin) (ok : Bool)
  | holdupEnd (ok : Bool) (seq : Nat)
deriving DecidableEq, Repr

/-! ## Ports (chapter 10) -/

/-- The result codes (R210). -/
inductive Result where
  | ok | busy | badRequest | notPermitted | notReady | sessionOpen | noSession | writeNotEnabled | protectedByLevel
  | locked | badArgument | validationFailed | wrongLifecycle | listFull | unknownId | staleNotice | freezeInProgress
  | tooEarly | notSettled | noMeasurement | zeroLimit | held | latchEmpty | coverOpen | storeFault
deriving DecidableEq, Repr

/-- A response frame: the code and tag echoed, the result, the payload after it (R207). -/
structure Response where
  code : Byte
  tag : Byte
  result : Result
  payload : List Byte
deriving DecidableEq, Repr

/-- The four parts of a snapshot latch, each read or unread (R199, R200). -/
structure Unread where
  p1 : Bool
  p2 : Bool
  p3 : Bool
  p4 : Bool
deriving DecidableEq, Repr

/-- A HELD snapshot latch: what the owners contributed, and the parts unread (R199). -/
structure Latch where
  time : Nat
  valid : Bool
  gen : Nat
  band : Nat
  freezeCounter : Nat
  effective : Nat
  enforced : Nat
  notice : Nat
  handshake : Handshake
  interlock : Interlock
  table : Table
  unread : Unread
deriving DecidableEq, Repr

/-- A block that a port asks for its values (R198, R199, R201, R205). -/
inductive Block where
  | ssv | mfp | nau | cck | tcu | ipu | bfu | ecu | dsc | cvm
deriving DecidableEq, Repr

/-- The three reads that a port gathers from several blocks: READ_STATUS, READ_LIVE, READ_CONFIG (R198, R201, R205). -/
inductive ReadKind where
  | status | live | config
deriving DecidableEq, Repr

/-- What the blocks asked have given a port so far: the items of a read, block by block, or a latch in the making
(R198, R199, R201, R205). -/
inductive Gathered where
  | read (kind : ReadKind) (given : List (Block × List Byte))
  | latch (draft : Latch)
deriving DecidableEq, Repr

/-- The asks of a request in progress: the blocks that have not answered yet, and what the others gave (R198, R199). -/
structure Asking where
  waiting : List Block
  gathered : Gathered
deriving DecidableEq, Repr

/-- The request in progress (R191), with the port's serial number for it (log 22) and, for a request that the port gathers
from several blocks, its asks (R198, R199, R201, R205). -/
structure PortRequest where
  code : Byte
  tag : Byte
  serial : Nat
  asking : Option Asking
deriving DecidableEq, Repr

/-- A set of attention members: one bit each (R191, R210). -/
structure Members where
  setpointNotice : Bool
  directiveChange : Bool
  profileReady : Bool
  freezeDone : Bool
  tamper : Bool
  timeUnset : Bool
  interlockOpen : Bool
  sessionEnded : Bool
  storeFault : Bool
  measurementLost : Bool
  restarted : Bool
deriving DecidableEq, Repr

/-- No member. -/
def Members.none : Members :=
  ⟨false, false, false, false, false, false, false, false, false, false, false⟩

/-- A port controller's state (R191). The port is SERVING exactly while a request is in progress. `restartKind` is the kind
RESTARTED carries; `coverView` is used at the Optical Port only (R195); `collecting` holds the bytes of a frame not yet whole,
from its marker on (R207); `serial` and `sent` are the model's own (log 22). -/
structure Port where
  inProgress : Option PortRequest
  writeEnable : Bool
  latch : Option Latch
  attention : Members
  restartKind : RestartKind
  mask : Members
  line : Bool
  coverView : Cover
  serial : Nat
  sent : Option Response
  collecting : List Byte
deriving DecidableEq, Repr

/-- A unit's report to a port: a member, and whether it is raised (or its cause holds) or its cause has ended (R202). -/
structure AttentionReport where
  member : Member
  present : Bool
deriving DecidableEq, Repr

/-! ## Messages in transit -/

/-- What reaches IPU about epochs (R12, R32, R36). -/
inductive EnergyMail where
  | missed
  | split (sp : Split)
deriving DecidableEq, Repr

/-- What IPU reports to NAU at a close, in order (R86). -/
inductive CloseMail where
  | close
  | demand (d : DemandReport)
deriving DecidableEq, Repr

/-- The messages in transit between blocks, each list oldest first (log 5, 6). -/
structure Mail where
  nauEpochs : List Increment
  ecuMfp : List EcuMail
  ipuEnergy : List EnergyMail
  nauCloses : List CloseMail
  mfpCloses : Nat
  tcuLengths : Nat
  ipuBands : List BandNotice
  ipuActivations : List ActivationNotice
  ipuInterlock : List Bool
  ipuTamper : Nat
  optCover : List Cover
  clockIpu : List ClockMail
  clockTcu : List ClockMail
  clockBfu : List ClockMail
  clockEcu : List ClockMail
  store : List StoreMail
  ssv : List SsvMail
  ulk : List AttentionReport
  slk : List AttentionReport
  opt : List AttentionReport
deriving DecidableEq, Repr

/-! ## The whole part -/

/-- The state of the part. `exportPermit` and `coverSwitch` are pins; `freeIndex` counts the free values used (log 11);
`pending` is the queue of waiting commands, first in, first out (log 23). -/
structure State where
  mfp : Mfp
  nau : Nau
  cck : Cck
  tcu : Tcu
  ipu : Ipu
  bfu : Bfu
  ecu : Ecu
  dsc : Dsc
  ssv : Ssv
  cvm : Cvm
  ulk : Port
  slk : Port
  opt : Port
  store : Store
  mail : Mail
  exportPermit : Bool
  coverSwitch : Cover
  freeIndex : Nat
  pending : List Instr
deriving DecidableEq, Repr

/-- The part has no fault that stops it: every failure the spec describes is a response, a flag or the store state FAULT,
after which the part goes on. No command raises one. -/
inductive Fault where
deriving DecidableEq, Repr

/-- Why a command has no meaning. -/
inductive Refusal where
  /-- A command whose meaning is not written: raised by no arm of exec now. Safe. -/
  | notModelled (mnemonic : String)
  /-- An operand that makes the command another row's (WellFormed refuses it): raised by UNKNOWN_REQUEST_CODE,
  WRITE_CONFIG_UNKNOWN_ITEM, UTILITY_HOLD_ON and UTILITY_HOLD_OFF. Safe (log 24). -/
  | illFormed
deriving DecidableEq, Repr

/-! ## Values before anything has happened, and the state after reset -/

/-- The defaults of the configuration record held (R166). -/
def ConfigRecord.defaults : ConfigRecord :=
  { seq := 0, map := .allUnused, mode := .summed, length := 15, billingDay := 0, ecu := ⟨5000, 100, 30, 60, 300⟩,
    utilityThreshold := 96, siteThreshold := 96, level := 0, lock := false }

/-- Seven empty max-demand entries (R2). -/
def Demands.empty : Demands :=
  { imp := ⟨⟨0, none⟩, ⟨0, none⟩, ⟨0, none⟩, ⟨0, none⟩, ⟨0, none⟩, ⟨0, none⟩⟩, exp := ⟨0, none⟩ }

/-- Fifteen registers at 0 Wh. -/
def Registers.zero : Registers := ⟨⟨0, 0, 0, 0, 0, 0⟩, ⟨0, 0, 0, 0, 0, 0⟩, 0, 0, 0⟩

/-- The table of R22 without a frozen set. -/
def Table.zero : Table := ⟨.zero, ⟨0, 0, 0⟩, .empty, none⟩

/-- NAU of R22 and R23 without a frozen set and without a configuration record. -/
def Nau.blank : Nau := ⟨.zero, .summed, none⟩

/-- MFP inactive, with the values of R39 and no map. -/
def Mfp.blank : Mfp :=
  { port := .idle, map := .allUnused, pendingMap := none, switchDue := false, expected := none, rebase := false,
    deadline := none, misses := 0, reported := 0, lastAccept := none, live := none, timer := 0,
    collecting := [] }

/-- CCK of a COLD restart (R54). -/
def Cck.blank : Cck := ⟨0, 0, false, 0, ⟨none, none, none, none⟩⟩

/-- TCU with no calendar (R77). -/
def Tcu.blank : Tcu :=
  { active := none, slot := .empty, boundary := none, sessionMs := none, action := .idle, discarded := 0, nextSeq := 1,
    band := 1, activeSector := 3, markOwed := false }

/-- A reader of an empty ring (R105). -/
def Reader.blank : Reader := ⟨1, 0, 0, 96⟩

/-- IPU of an empty ring before its resumption (R105, R106). -/
def Ipu.blank : Ipu :=
  { length := 15, pendingLength := none, underWrite := none, interval := none, calendarHold := false, supplyMark := none,
    owedRollback := false, owedReset := false, interlockClosed := false, valid := false, nextNumber := 1,
    numbersSpent := false, queue := [], handed := false, writePos := 0, erase := .requested, ring := [],
    utility := .blank, site := .blank, savedAt := none }

/-- BFU with no set (R123). -/
def Bfu.blank : Bfu :=
  { billingDay := 0, captured := none, deferred := false, counter := 0, lastDate := none, history := [], writePos := 0,
    erase := .idle, handed := false }

/-- ECU of R151 with the defaults. -/
def Ecu.blank : Ecu :=
  { list := [], nextSeq := 1, config := ⟨5000, 100, 30, 60, 300⟩, governing := none, effective := 5000, notice := 0,
    noticeLimit := 5000, handshake := .settled, settled := 5000, deadline := none, excursion := 0,
    interlock := .openReady, cause := .none, hold := false, openEnd := none, view := .idle }

/-- DSC of R175 over an array with no record. -/
def Dsc.blank : Dsc :=
  { fault := false, inFlight := none, suspended := none, grant := none, gather := none, queue := [], imageWanted := false,
    nextSlot := 0, nextSeq := 1, seqSpent := false, awaitsErase := false, held := .defaults, lastPage := none, level := 0,
    lock := false, lifecycle := .commissioning, alarm := false, identity := none, nextId := 0 }

/-- SSV with nothing held on the cell: the path of power-on (R176, R177). -/
def Ssv.blank : Ssv :=
  { supply := .backup, mainsGood := false, gatingMs := none, phase := none, kind := .cold, cellGood := false,
    record := .none, commanded := none, retention := false, cause := .mainsReturn, writeStep := false, resumed := false,
    owed := ⟨false, false, false, false, false⟩ }

/-- CVM with nothing recorded. -/
def Cvm.blank : Cvm := ⟨.closed, false, false⟩

/-- A port that holds nothing (R191, the entry to START). -/
def Port.blank : Port :=
  { inProgress := none, writeEnable := false, latch := none, attention := .none, restartKind := .cold, mask := .none,
    line := false, coverView := .closed, serial := 0, sent := none, collecting := [] }

/-- No message in transit. -/
def Mail.empty : Mail :=
  { nauEpochs := [], ecuMfp := [], ipuEnergy := [], nauCloses := [], mfpCloses := 0, tcuLengths := 0, ipuBands := [],
    ipuActivations := [], ipuInterlock := [], ipuTamper := 0, optCover := [], clockIpu := [], clockTcu := [],
    clockBfu := [], clockEcu := [], store := [], ssv := [], ulk := [], slk := [], opt := [] }

/-- The array as manufactured: the identity page programmed, every other slot erased (R152, log 1). -/
def Store.manufactured : Store :=
  { identity := some ⟨Config.serialNumber, Config.revisionCode⟩, marks := [], config := [], calendar3 := ⟨none, none⟩,
    calendar4 := ⟨none, none⟩, frozen := [], images := [], profile := [] }

/-- A part that has never been powered (R176): nothing on the cell, nothing held on mains, the array as manufactured. -/
def State.powerOn : State :=
  { mfp := .blank, nau := .blank, cck := .blank, tcu := .blank, ipu := .blank, bfu := .blank, ecu := .blank,
    dsc := .blank, ssv := .blank, cvm := .blank, ulk := .blank, slk := .blank, opt := .blank, store := .manufactured,
    mail := .empty, exportPermit := false, coverSwitch := .closed, freeIndex := 0, pending := [] }

/-- The interval IPU opens at time 0 after the first COLD restart (R81, R106): UNSET, interlock not CLOSED. -/
def OpenInterval.first : OpenInterval :=
  { slotStart := 0, slotEnd := 900, start := 0, gen := 0, band := 1, imp := 0, exp := 0, generation := none, missed := 0,
    flags := { Quality.none with timeInvalid := true, curtailed := true } }

/-- A port at service entry after the first COLD restart (R191): RESTARTED with the kind COLD, the line asserted. -/
def Port.afterCold : Port :=
  { Port.blank with attention := { Members.none with restarted := true }, line := true }

/-- The part right after reset: in service after its first COLD restart, at time 0 of an UNSET clock, over the array as
manufactured (log 1). Every item has the value the spec gives it for a COLD restart. -/
def State.reset : State :=
  { State.powerOn with
    mfp := { Mfp.blank with deadline := some 1500 }
    cck := { Cck.blank with due := ⟨some 900, none, none, none⟩ }
    ipu := { Ipu.blank with interval := some .first }
    dsc := { Dsc.blank with
      identity := some ⟨Config.serialNumber, Config.revisionCode⟩
      queue := [⟨0, 4, .profileErase 15, [.erase 15], true, false, [], none⟩]
      nextId := 1 }
    ssv := { Ssv.blank with supply := .mains, mainsGood := true, retention := true }
    ulk := { Port.afterCold with attention := { Members.none with restarted := true, timeUnset := true } }
    slk := Port.afterCold
    opt := Port.afterCold }

end Sys2Proof.Machine
end

