-- ==== Sys2Proof/Machine/Dates.lean ====
section
/-! DEFINITION. The calendar form of a time (R44), interval slots, and billing instants (R111). -/

namespace Sys2Proof.Machine

/-- Days since 2000-01-01 (R44). -/
def dayNumber (t : Nat) : Nat := t / 86400

/-- The second of the day (R44). -/
def secondOfDay (t : Nat) : Nat := t % 86400

/-- The minute of the day, 0..1439 (R44). -/
def minuteOfDay (t : Nat) : Nat := secondOfDay t / 60

/-- The weekday, 0 for Monday; day 0 is a Saturday (R44). -/
def weekday (t : Nat) : Nat := (dayNumber t + 5) % 7

/-- Leap years of the clock's range: divisible by 4, apart from 2100 (R44). -/
def isLeap (year : Nat) : Bool := year % 4 == 0 && year != 2100

/-- Days of a year (R44). -/
def yearDays (year : Nat) : Nat := if isLeap year then 366 else 365

/-- Days of a month (R44). -/
def monthDays (year month : Nat) : Nat :=
  match month with
  | 2 => if isLeap year then 29 else 28
  | 4 | 6 | 9 | 11 => 30
  | _ => 31

/-- From a year and the days past its 1 January, the year and the day within it. -/
def findYear : (fuel year days : Nat) → Nat × Nat
  | 0, year, days => (year, days)
  | f + 1, year, days =>
    if days < yearDays year then (year, days) else findYear f (year + 1) (days - yearDays year)

/-- From a month and the days past its first, the month and the day of the month counted from 1. -/
def findMonth : (fuel year month days : Nat) → Nat × Nat
  | 0, _, month, days => (month, days + 1)
  | f + 1, year, month, days =>
    if days < monthDays year month then (month, days + 1)
    else findMonth f year (month + 1) (days - monthDays year month)

/-- The date of a time (R44). The clock's range ends in 2136. -/
def dateOf (t : Nat) : Date :=
  let (year, days) := findYear 140 2000 (dayNumber t)
  let (month, day) := findMonth 12 year 1 days
  ⟨year, month, day⟩

/-- Days from 2000-01-01 to 1 January of 2000 + n. -/
def daysToYear : Nat → Nat
  | 0 => 0
  | n + 1 => daysToYear n + yearDays (2000 + n)

/-- Days from 1 January to the first of the month after n whole months. -/
def daysToMonth (year : Nat) : Nat → Nat
  | 0 => 0
  | n + 1 => daysToMonth year n + monthDays year (n + 1)

/-- 00:00:00 of a date (R44). -/
def midnightOf (d : Date) : Nat := 86400 * (daysToYear (d.year - 2000) + daysToMonth d.year (d.month - 1) + (d.day - 1))

/-- Whether a date is earlier than another. -/
def Date.before (a b : Date) : Bool :=
  a.year * 10000 + a.month * 100 + a.day < b.year * 10000 + b.month * 100 + b.day

/-- Whether a date is later than one that may be absent; every date is later than an absent one (R111, R117). -/
def Date.laterThan (a : Date) : Option Date → Bool
  | none => true
  | some b => b.before a

/-- The later of two dates that may be absent (R122 step 4). -/
def laterDate : Option Date → Option Date → Option Date
  | none, b => b
  | a, none => a
  | some a, some b => if a.before b then some b else some a

/-- The date of the first billing instant strictly later than 00:00:00 of a date (R111). -/
def nextBillingDate (billingDay : Nat) (d : Date) : Date :=
  if d.day < billingDay then ⟨d.year, d.month, billingDay⟩
  else if d.month < 12 then ⟨d.year, d.month + 1, billingDay⟩
  else ⟨d.year + 1, 1, billingDay⟩

/-- The date of the latest billing instant at or before a time; none before the first one after the clock's 0 (R111). -/
def latestBillingDate (billingDay : Nat) (t : Nat) : Option Date :=
  let d := dateOf t
  if billingDay = 0 then none
  else if billingDay ≤ d.day then some ⟨d.year, d.month, billingDay⟩
  else if 1 < d.month then some ⟨d.year, d.month - 1, billingDay⟩
  else if 2000 < d.year then some ⟨d.year - 1, 12, billingDay⟩
  else none

/-- The start of the interval slot of a length in minutes that contains a time; every day starts on a slot boundary (R44). -/
def slotStartOf (minutes t : Nat) : Nat := t / (minutes * 60) * (minutes * 60)

/-- The first multiple of a length at or after a time. -/
def boundaryAtOrAfter (minutes t : Nat) : Nat := (t + minutes * 60 - 1) / (minutes * 60) * (minutes * 60)

/-- The first interval boundary strictly later than the present time and at or after an activation time (R73). -/
def activationBoundary (minutes now activation : Nat) : Nat :=
  max (slotStartOf minutes now + minutes * 60) (boundaryAtOrAfter minutes activation)

end Sys2Proof.Machine
end

