-- ==== Sys2Proof/Machine/Ops.lean ====
section
/-! DEFINITION. Named operations over the state that every family uses: setting one component, the six-band records, the
regions of the array, the attention members, reports to the ports, and the answer to a request in progress. -/

namespace Sys2Proof.Machine

/-! ## Setting one component of the state -/

/-- The state with its `mfp` replaced. -/
def State.setMfp (s : State) (x : Mfp) : State := { s with mfp := x }

/-- The state with its `nau` replaced. -/
def State.setNau (s : State) (x : Nau) : State := { s with nau := x }

/-- The state with its `cck` replaced. -/
def State.setCck (s : State) (x : Cck) : State := { s with cck := x }

/-- The state with its `tcu` replaced. -/
def State.setTcu (s : State) (x : Tcu) : State := { s with tcu := x }

/-- The state with its `ipu` replaced. -/
def State.setIpu (s : State) (x : Ipu) : State := { s with ipu := x }

/-- The state with its `bfu` replaced. -/
def State.setBfu (s : State) (x : Bfu) : State := { s with bfu := x }

/-- The state with its `ecu` replaced. -/
def State.setEcu (s : State) (x : Ecu) : State := { s with ecu := x }

/-- The state with its `dsc` replaced. -/
def State.setDsc (s : State) (x : Dsc) : State := { s with dsc := x }

/-- The state with its `ssv` replaced. -/
def State.setSsv (s : State) (x : Ssv) : State := { s with ssv := x }

/-- The state with its `cvm` replaced. -/
def State.setCvm (s : State) (x : Cvm) : State := { s with cvm := x }

/-- The state with its `ulk` replaced. -/
def State.setUlk (s : State) (x : Port) : State := { s with ulk := x }

/-- The state with its `slk` replaced. -/
def State.setSlk (s : State) (x : Port) : State := { s with slk := x }

/-- The state with its `opt` replaced. -/
def State.setOpt (s : State) (x : Port) : State := { s with opt := x }

/-- The state with its `store` replaced. -/
def State.setStore (s : State) (x : Store) : State := { s with store := x }

/-- The state with its `mail` replaced. -/
def State.setMail (s : State) (x : Mail) : State := { s with mail := x }

/-- The state with its `exportPermit` replaced. -/
def State.setExportPermit (s : State) (x : Bool) : State := { s with exportPermit := x }

/-- The state with its `coverSwitch` replaced. -/
def State.setCoverSwitch (s : State) (x : Cover) : State := { s with coverSwitch := x }

/-- The state with its `freeIndex` replaced. -/
def State.setFreeIndex (s : State) (x : Nat) : State := { s with freeIndex := x }

/-- The state with its `pending` replaced. -/
def State.setPending (s : State) (x : List Instr) : State := { s with pending := x }


/-! ## Six-band records (R1, R2) -/

/-- The item of a band; the bands are 1 to 6. -/
def PerBand.get {α : Type} (p : PerBand α) : Nat → α
  | 1 => p.b1
  | 2 => p.b2
  | 3 => p.b3
  | 4 => p.b4
  | 5 => p.b5
  | _ => p.b6

/-- The record with one band's item replaced. -/
def PerBand.set {α : Type} (p : PerBand α) (band : Nat) (x : α) : PerBand α :=
  match band with
  | 1 => { p with b1 := x }
  | 2 => { p with b2 := x }
  | 3 => { p with b3 := x }
  | 4 => { p with b4 := x }
  | 5 => { p with b5 := x }
  | _ => { p with b6 := x }

/-- The items of bands 1 to 6 in order. -/
def PerBand.toList {α : Type} (p : PerBand α) : List α := [p.b1, p.b2, p.b3, p.b4, p.b5, p.b6]

/-- The sum over the six bands (R11, R22). -/
def PerBand.sum (p : PerBand Nat) : Nat := p.b1 + p.b2 + p.b3 + p.b4 + p.b5 + p.b6

/-- The roles of slots 1 to 7 in order. -/
def SlotMap.toList (m : SlotMap) : List Role := [m.s1, m.s2, m.s3, m.s4, m.s5, m.s6, m.s7]

/-! ## Regions of the array (log 9) -/

/-- What a slot holds; `none` for an erased slot. -/
def Region.lookup {α : Type} (r : Region α) (n : Nat) : Option (Written α) :=
  match r with
  | [] => none
  | (k, w) :: t => if k = n then some w else Region.lookup t n

/-- The region with one slot written; the canonical form is kept. -/
def Region.put {α : Type} (r : Region α) (n : Nat) (w : Written α) : Region α :=
  match r with
  | [] => [(n, w)]
  | (k, v) :: t =>
    if n < k then (n, w) :: (k, v) :: t
    else if n = k then (n, w) :: t
    else (k, v) :: Region.put t n w

/-- The region with the slots lo to hi - 1 erased. -/
def Region.eraseRange {α : Type} (r : Region α) (lo hi : Nat) : Region α :=
  r.filter fun e => !(decide (lo ≤ e.1) && decide (e.1 < hi))

/-- Whether every slot from lo to hi - 1 is erased. -/
def Region.erasedIn {α : Type} (r : Region α) (lo hi : Nat) : Bool :=
  r.all fun e => !(decide (lo ≤ e.1) && decide (e.1 < hi))

/-- The records wholly programmed, marker included, with their slots, in slot order (R212). -/
def Region.valid {α : Type} (r : Region α) : List (Nat × α) :=
  r.filterMap fun e =>
    match e.2 with
    | .torn => none
    | .whole x => some (e.1, x)

/-- The highest slot from lo to hi - 1 that is not erased. -/
def Region.highest {α : Type} (r : Region α) (lo hi : Nat) : Option Nat :=
  r.foldl (fun acc e => if lo ≤ e.1 ∧ e.1 < hi then some e.1 else acc) none

/-- The canonical form of a region: slot numbers strictly rising. -/
def Region.wf {α : Type} : Region α → Bool
  | [] => true
  | [_] => true
  | a :: b :: t => decide (a.1 < b.1) && Region.wf (b :: t)

/-- The canonical form of the array. -/
def Store.wf (st : Store) : Bool :=
  Region.wf st.marks && Region.wf st.config && Region.wf st.frozen && Region.wf st.images && Region.wf st.profile

/-! ## Attention members -/

/-- Whether a member is in a set. -/
def Members.has (x : Members) : Member → Bool
  | .setpointNotice => x.setpointNotice
  | .directiveChange => x.directiveChange
  | .profileReady => x.profileReady
  | .freezeDone => x.freezeDone
  | .tamper => x.tamper
  | .timeUnset => x.timeUnset
  | .interlockOpen => x.interlockOpen
  | .sessionEnded => x.sessionEnded
  | .storeFault => x.storeFault
  | .measurementLost => x.measurementLost
  | .restarted => x.restarted

/-- A set with one member added or removed. -/
def Members.put (x : Members) (m : Member) (present : Bool) : Members :=
  match m with
  | .setpointNotice => { x with setpointNotice := present }
  | .directiveChange => { x with directiveChange := present }
  | .profileReady => { x with profileReady := present }
  | .freezeDone => { x with freezeDone := present }
  | .tamper => { x with tamper := present }
  | .timeUnset => { x with timeUnset := present }
  | .interlockOpen => { x with interlockOpen := present }
  | .sessionEnded => { x with sessionEnded := present }
  | .storeFault => { x with storeFault := present }
  | .measurementLost => { x with measurementLost := present }
  | .restarted => { x with restarted := present }

/-- The members in bit order (R210). -/
def allMembers : List Member :=
  [.setpointNotice, .directiveChange, .profileReady, .freezeDone, .tamper, .timeUnset, .interlockOpen, .sessionEnded,
    .storeFault, .measurementLost, .restarted]

/-- The level members; the others are event members (R202). -/
def isLevel : Member → Bool
  | .setpointNotice | .tamper | .timeUnset | .storeFault | .measurementLost => true
  | .directiveChange | .profileReady | .freezeDone | .interlockOpen | .sessionEnded | .restarted => false

/-- The ports a member belongs to (R202). -/
def belongsTo : Member → PortId → Bool
  | .setpointNotice, .slk => true
  | .setpointNotice, _ => false
  | .directiveChange, .ulk | .freezeDone, .ulk | .timeUnset, .ulk | .sessionEnded, .ulk => true
  | .directiveChange, _ | .freezeDone, _ | .timeUnset, _ | .sessionEnded, _ => false
  | .profileReady, .opt | .interlockOpen, .opt | .measurementLost, .opt => false
  | .profileReady, _ | .interlockOpen, _ | .measurementLost, _ => true
  | .tamper, .slk | .storeFault, .slk => false
  | .tamper, _ | .storeFault, _ => true
  | .restarted, _ => true

/-- Whether some member of the first set is not in the second (R202). -/
def Members.unmasked (set mask : Members) : Bool := allMembers.any fun m => set.has m && !mask.has m

/-! ## Ports -/

/-- One port's state. -/
def State.port (s : State) : PortId → Port
  | .ulk => s.ulk
  | .slk => s.slk
  | .opt => s.opt

/-- The state with one port's state replaced. -/
def State.setPort (s : State) (p : PortId) (x : Port) : State :=
  match p with
  | .ulk => s.setUlk x
  | .slk => s.setSlk x
  | .opt => s.setOpt x

/-- Whether the attention lines are held deasserted: START and BACKUP (R178, R183, R202). -/
def State.linesOff (s : State) : Bool :=
  match s.ssv.supply with
  | .start | .backup => true
  | .mains | .holdup => false

/-- A port whose attention line follows its set and mask (R202). -/
def Port.withLine (x : Port) (off : Bool) : Port :=
  { x with line := !off && x.attention.unmasked x.mask }

/-- Whether an owner's answer is still owed: HOLDUP and restarts abandon requests (R180, R191). -/
def State.owes (s : State) (o : Origin) : Bool :=
  match (s.port o.port).inProgress with
  | some r => r.serial == o.serial
  | none => false

/-- The seven protected requests, by code (R196, R208). -/
def protectedCode (code : Byte) : Bool :=
  code == 0x11 || code == 0x71 || code == 0x31 || code == 0x21 || code == 0x70 || code == 0x72 || code == 0x75

/-- The port sends an owner's answer to the request in progress and becomes IDLE; the answer to a protected request clears
the write-enable latch (R192, R196). A request abandoned before has no answer (R180). -/
def State.reply (s : State) (o : Origin) (res : Result) (payload : List Byte) : State :=
  let x := s.port o.port
  match x.inProgress with
  | some r =>
    if r.serial = o.serial then
      s.setPort o.port
        { x with
          inProgress := none
          sent := some ⟨r.code, r.tag, res, payload⟩
          writeEnable := x.writeEnable && !protectedCode r.code }
    else s
  | none => s

/-- A unit sends a port a report; a port the member does not belong to is sent none (R202). -/
def State.report (s : State) (p : PortId) (m : Member) (present : Bool) : State :=
  if belongsTo m p then
    match p with
    | .ulk => s.setMail { s.mail with ulk := s.mail.ulk ++ [⟨m, present⟩] }
    | .slk => s.setMail { s.mail with slk := s.mail.slk ++ [⟨m, present⟩] }
    | .opt => s.setMail { s.mail with opt := s.mail.opt ++ [⟨m, present⟩] }
  else s

/-- A report to all three ports. -/
def State.reportAll (s : State) (m : Member) (present : Bool) : State :=
  ((s.report .ulk m present).report .slk m present).report .opt m present

/-! ## Units in and out of service -/

/-- Whether an owner of a due slot is in service: always in MAINS and HOLDUP, from its resumption on in START, never in
BACKUP (R53, R183, R188). -/
def State.inService (s : State) (o : Owner) : Bool :=
  match s.ssv.supply with
  | .mains | .holdup => true
  | .backup => false
  | .start =>
    s.ssv.resumed &&
      match o with
      | .ipu => !s.ssv.owed.ipu
      | .tcu => !s.ssv.owed.tcu
      | .bfu => !s.ssv.owed.bfu
      | .ecu => !s.ssv.owed.ecu

/-- Whether the supply state is MAINS. -/
def State.onMains (s : State) : Bool := s.ssv.supply == .mains

/-! ## Lists -/

/-- The first element that meets a test, and the list without it. -/
def takeFirst {α : Type} (test : α → Bool) : List α → Option (α × List α)
  | [] => none
  | a :: t =>
    if test a then some (a, t)
    else match takeFirst test t with
      | some (x, rest) => some (x, a :: rest)
      | none => none

/-- The smaller of two times, an absent one giving the other. -/
def earlier : Option Nat → Option Nat → Option Nat
  | none, b => b
  | a, none => a
  | some a, some b => some (min a b)

/-- The earliest of several times that apply. -/
def earliest (ts : List (Option Nat)) : Option Nat := ts.foldl earlier none

/-- Addition that saturates at a bound. -/
def satAdd (bound a b : Nat) : Nat := min bound (a + b)

end Sys2Proof.Machine
end

