-- ==== Sys2Proof/Machine/Due.lean ====
section
/-! DEFINITION. CCK's due slots and the delivery of a change of time, which every owner uses (R42, R51 to R53). -/

namespace Sys2Proof.Machine

/-- An owner's due slot. -/
def DueSlots.get (d : DueSlots) : Owner → Option Nat
  | .ipu => d.ipu
  | .tcu => d.tcu
  | .bfu => d.bfu
  | .ecu => d.ecu

/-- The slots with one owner's replaced. -/
def DueSlots.put (d : DueSlots) (o : Owner) (t : Option Nat) : DueSlots :=
  match o with
  | .ipu => { d with ipu := t }
  | .tcu => { d with tcu := t }
  | .bfu => { d with bfu := t }
  | .ecu => { d with ecu := t }

/-- What CCK has sent an owner and the owner has not yet taken. -/
def Mail.clock (m : Mail) : Owner → List ClockMail
  | .ipu => m.clockIpu
  | .tcu => m.clockTcu
  | .bfu => m.clockBfu
  | .ecu => m.clockEcu

/-- The mail with one owner's clock messages replaced. -/
def Mail.putClock (m : Mail) (o : Owner) (l : List ClockMail) : Mail :=
  match o with
  | .ipu => { m with clockIpu := l }
  | .tcu => { m with clockTcu := l }
  | .bfu => { m with clockBfu := l }
  | .ecu => { m with clockEcu := l }

/-- CCK sends an owner a message behind those it has not yet taken (R52). -/
def State.sendClock (s : State) (o : Owner) (m : ClockMail) : State :=
  s.setMail (s.mail.putClock o (s.mail.clock o ++ [m]))

/-- The first change notice among some messages. -/
def firstNotice : List ClockMail → Option Notice
  | [] => none
  | .notice n :: _ => some n
  | .due _ :: t => firstNotice t

/-- The messages with one more put in line: ahead of the first notice, behind all where no notice waits. -/
def aheadOfNotice (m : ClockMail) : List ClockMail → List ClockMail
  | [] => [m]
  | .notice n :: t => m :: .notice n :: t
  | .due d :: t => .due d :: aheadOfNotice m t

/-- The change notice that an owner takes next, behind the due events in line before it (R52). -/
def State.nextNotice (s : State) (o : Owner) : Option Notice := firstNotice (s.mail.clock o)

/-- Whether a change notice waits for an owner; its slot's due test follows the notice (R52, log 17). -/
def State.noticeWaits (s : State) (o : Owner) : Bool := (s.nextNotice o).isSome

/-- The time up to which an owner's slot is tested in the turn of the message the owner takes: the old time of the change
whose notice it takes next, which that change's own notice and test follow, and CCK's time where none waits (R52, log 17). -/
def State.turnTime (s : State) (o : Owner) : Nat :=
  match s.nextNotice o with
  | some n => n.oldTime
  | none => s.cck.time

/-- The generation of that time (R46). -/
def State.turnGen (s : State) (o : Owner) : Nat :=
  match s.nextNotice o with
  | some n => n.oldGen
  | none => s.cck.gen

/-- Whether CCK delivers due events: in MAINS, and in START from the resumptions on; not in HOLDUP or BACKUP (R53, R178). -/
def State.deliversDues (s : State) : Bool :=
  match s.ssv.supply with
  | .mains | .start => true
  | .holdup | .backup => false

/-- The test of one slot (R51): a time at or before the present time gives one due event and leaves the slot absent. While a
change notice waits for the owner the test is left to the notice's turn (R52, log 17). -/
def State.testSlot (s : State) (o : Owner) (how : Reached) : State :=
  match s.cck.due.get o with
  | none => s
  | some t =>
    if s.deliversDues && !s.noticeWaits o && decide (t ≤ s.cck.time) then
      (s.setCck { s.cck with due := s.cck.due.put o none }).sendClock o (.due ⟨t, s.cck.time, s.cck.gen, how⟩)
    else s

/-- The test of all four slots (R43, R53). -/
def State.testSlots (s : State) (how : Reached) : State :=
  (((s.testSlot .ipu how).testSlot .tcu how).testSlot .bfu how).testSlot .ecu how

/-- An owner arms its slot, or disarms it with `none`; arming tests it (R51). -/
def State.arm (s : State) (o : Owner) (t : Option Nat) (how : Reached) : State :=
  (s.setCck { s.cck with due := s.cck.due.put o t }).testSlot o how

/-- The test of one slot in the turn of a message of CCK that its owner takes (R51, R52). With no notice left it is the test
against the present time. Where the notice of a later change waits, each change still has its own test: against the time
reached before the later change, its due event in line ahead of that notice, also in HOLDUP (DESIGN CHOICE, log 17). -/
def State.testInTurn (s : State) (o : Owner) (how : Reached) : State :=
  match s.cck.due.get o with
  | none => s
  | some t =>
    if (s.deliversDues || s.noticeWaits o) && decide (t ≤ s.turnTime o) then
      (s.setCck { s.cck with due := s.cck.due.put o none }).setMail
        (s.mail.putClock o (aheadOfNotice (.due ⟨t, s.turnTime o, s.turnGen o, how⟩) (s.mail.clock o)))
    else s

/-- An owner arms its slot, or disarms it, while it takes a message of CCK; for a change notice the test is the one that
follows the notice (R51, R52). -/
def State.armInTurn (s : State) (o : Owner) (t : Option Nat) (how : Reached) : State :=
  (s.setCck { s.cck with due := s.cck.due.put o t }).testInTurn o how

/-- CCK gives an owner a change notice; an owner out of service gets none (R52, R54). -/
def State.notify (s : State) (o : Owner) (n : Notice) : State :=
  if s.inService o then s.sendClock o (.notice n) else s

/-- A change of time (R52): CCK takes the new time, generation and validity and gives each owner the notice. -/
def State.changeTime (s : State) (kind : ChangeKind) (time gen : Nat) (valid : Bool) : State :=
  let n : Notice := ⟨kind, s.cck.time, time, s.cck.gen, gen, s.cck.valid, valid⟩
  let s1 := s.setCck { s.cck with time := time, gen := gen, valid := valid }
  (((s1.notify .ipu n).notify .tcu n).notify .bfu n).notify .ecu n

/-- The generation after one change of time, modulo 256 (R46). -/
def nextGen (g : Nat) : Nat := (g + 1) % 256

/-- Whether an owner takes due events: in service, and not in HOLDUP (R78, R103, R120, R148, log 7). -/
def State.takesDues (s : State) (o : Owner) : Bool := s.inService o && s.ssv.supply != .holdup

/-- The due event an owner takes next: the oldest message CCK has sent it, when that is a due event (R52, log 6). -/
def State.takeDue (s : State) (o : Owner) : Option (Due × State) :=
  match s.mail.clock o with
  | .due d :: rest => if s.takesDues o then some (d, s.setMail (s.mail.putClock o rest)) else none
  | _ => none

/-- The change notice an owner takes next (R52, log 6). -/
def State.takeNotice (s : State) (o : Owner) : Option (Notice × State) :=
  match s.mail.clock o with
  | .notice n :: rest => if s.inService o then some (n, s.setMail (s.mail.putClock o rest)) else none
  | _ => none

end Sys2Proof.Machine
end

