-- ==== Sys2Proof/Machine/Flags.lean ====
section
/-! DEFINITION. The two sets of bits the part sends: the quality flags of an interval record (R213) and the attention
members (R210), and the flag operations of the open interval. -/

namespace Sys2Proof.Machine

/-- A bit at a place. -/
def bitAt (place : Nat) (b : Bool) : Nat := if b then 2 ^ place else 0

/-- The flag bits of an interval record, from bit 0 (R213). -/
def Quality.bits (q : Quality) : Nat :=
  bitAt 0 q.partialInterval + bitAt 1 q.clockAdjusted + bitAt 2 q.timeInvalid + bitAt 3 q.measurementGap
    + bitAt 4 q.converterFault + bitAt 5 q.supplyLoss + bitAt 6 q.tamper + bitAt 7 q.curtailed + bitAt 8 q.calendarChanged
    + bitAt 9 q.registerRollback + bitAt 10 q.resetInput + bitAt 11 q.genAbsent

/-- The member bits 0 to 10 of a set (R210). -/
def Members.bits (x : Members) : Nat :=
  bitAt 0 x.setpointNotice + bitAt 1 x.directiveChange + bitAt 2 x.profileReady + bitAt 3 x.freezeDone
    + bitAt 4 x.tamper + bitAt 5 x.timeUnset + bitAt 6 x.interlockOpen + bitAt 7 x.sessionEnded + bitAt 8 x.storeFault
    + bitAt 9 x.measurementLost + bitAt 10 x.restarted

/-- The set of a 16-bit number's bits 0 to 10 (R210). -/
def Members.ofBits (n : Nat) : Members :=
  ⟨n.testBit 0, n.testBit 1, n.testBit 2, n.testBit 3, n.testBit 4, n.testBit 5, n.testBit 6, n.testBit 7, n.testBit 8,
    n.testBit 9, n.testBit 10⟩

/-- Whether every member of a set belongs to a port (R204). -/
def Members.allBelong (x : Members) (p : PortId) : Bool := allMembers.all fun m => !x.has m || belongsTo m p

/-- The set without its event members (R203 step 2). -/
def Members.levelsOnly (x : Members) : Members :=
  { x with directiveChange := false, profileReady := false, freezeDone := false, interlockOpen := false,
           sessionEnded := false, restarted := false }

/-- The open interval with its flag set changed. -/
def OpenInterval.flag (iv : OpenInterval) (f : Quality → Quality) : OpenInterval := { iv with flags := f iv.flags }

/-- The state with the open interval's flag set changed; nothing before an interval is open. -/
def State.flagInterval (s : State) (f : Quality → Quality) : State :=
  s.setIpu { s.ipu with interval := s.ipu.interval.map fun iv => iv.flag f }

end Sys2Proof.Machine
end

