-- ==== Sys2Proof/Machine/Formats.lean ====
section
/-! DEFINITION. The byte layouts of chapter 11: numbers, enumerated items, checks, link frames, and the records the masters
see as stored. -/

namespace Sys2Proof.Machine

/-! ## Numbers (R206) -/

/-- The k low bytes of a number, most significant first. -/
def be : (k n : Nat) → List Byte
  | 0, _ => []
  | k + 1, n => be k (n / 256) ++ [BitVec.ofNat 8 n]

/-- The number that bytes spell, most significant first. -/
def ofBe (bs : List Byte) : Nat := bs.foldl (fun acc b => acc * 256 + b.toNat) 0

/-- The value of a number of 4 bytes in two's complement. -/
def signed32 (n : Nat) : Int := if n < 2147483648 then (n : Int) else (n : Int) - 4294967296

/-- A signed number in 4 bytes, two's complement. -/
def beSigned (z : Int) : List Byte := be 4 (z % 4294967296).toNat

/-- A flag byte: 0 or 1 (R219). -/
def flagByte (b : Bool) : List Byte := be 1 (if b then 1 else 0)

/-- An optional number of k bytes behind its presence byte; absent bytes are 0x00 (R206). -/
def optBe (k : Nat) : Option Nat → List Byte
  | none => be 1 0 ++ be k 0
  | some n => be 1 1 ++ be k n

/-- An optional signed number of 4 bytes behind its presence byte. -/
def optSigned : Option Int → List Byte
  | none => be 1 0 ++ be 4 0
  | some z => be 1 1 ++ beSigned z

/-- A date as year 2 B, month, day (R214, R219). -/
def dateBytes (d : Date) : List Byte := be 2 d.year ++ be 1 d.month ++ be 1 d.day

/-- An optional date behind its presence byte (R219). -/
def optDate : Option Date → List Byte
  | none => be 1 0 ++ be 4 0
  | some d => be 1 1 ++ dateBytes d

/-! ## Enumerated items: the position in the list of the defining table (R206) -/

def MfpState.code : MfpState → Nat
  | .idle => 0 | .locked => 1 | .lost => 2

/-- VALID 0, UNSET 1 (R42). -/
def validityCode (valid : Bool) : Nat := if valid then 0 else 1

def Role.code : Role → Nat
  | .unused => 0 | .phaseA => 1 | .phaseB => 2 | .phaseC => 3 | .gen => 4

def NettingMode.code : NettingMode → Nat
  | .summed => 0 | .perPhase => 1

def PendingSlot.code : PendingSlot → Nat
  | .empty => 0 | .loading _ => 1 | .waiting _ => 2

def Handshake.code : Handshake → Nat
  | .settled => 0 | .notified => 1 | .overdue => 2

def Interlock.code : Interlock → Nat
  | .closed => 0 | .openWait => 1 | .openReady => 2 | .held => 3

def Cause.code : Cause → Nat
  | .none => 0 | .overLimit => 1 | .overdueExcess => 2 | .measurementLost => 3 | .utilityHold => 4

def Supply.code : Supply → Nat
  | .start => 0 | .mains => 1 | .holdup => 2 | .backup => 3

def RestartKind.code : RestartKind → Nat
  | .cold => 0 | .imageLost => 1 | .supply => 2 | .commanded => 3 | .resetInput => 4

def Cover.code : Cover → Nat
  | .closed => 0 | .opened => 1

def Lifecycle.code : Lifecycle → Nat
  | .commissioning => 0 | .inService => 1

def FreezeCause.code : FreezeCause → Nat
  | .scheduled => 0 | .requested => 1

/-- The result codes (R210). -/
def Result.code : Result → Nat
  | .ok => 0x00 | .busy => 0x01 | .badRequest => 0x02 | .notPermitted => 0x03 | .notReady => 0x04 | .sessionOpen => 0x05
  | .noSession => 0x06 | .writeNotEnabled => 0x07 | .protectedByLevel => 0x08 | .locked => 0x09 | .badArgument => 0x0A
  | .validationFailed => 0x0B | .wrongLifecycle => 0x0C | .listFull => 0x0D | .unknownId => 0x0E | .staleNotice => 0x0F
  | .freezeInProgress => 0x10 | .tooEarly => 0x11 | .notSettled => 0x12 | .noMeasurement => 0x13 | .zeroLimit => 0x14
  | .held => 0x15 | .latchEmpty => 0x16 | .coverOpen => 0x17 | .storeFault => 0x18

/-- The validation reasons (R210). -/
inductive Reason where
  | defaultBandBad | firstNotMidnight | notAscending | badBand | misalignedSwitch | weekIncomplete | profileMissing
  | duplicateDate | clockUnset | noPhaseMapped
deriving DecidableEq, Repr

def Reason.code : Reason → Nat
  | .defaultBandBad => 1 | .firstNotMidnight => 2 | .notAscending => 3 | .badBand => 4 | .misalignedSwitch => 5
  | .weekIncomplete => 6 | .profileMissing => 7 | .duplicateDate => 8 | .clockUnset => 9 | .noPhaseMapped => 10

/-- The datum of VALIDATION_FAILED: the reason and its item, 0xFF when it reports none (R210). -/
def reasonBytes (r : Reason) (item : Option Nat) : List Byte := be 1 r.code ++ be 1 (item.getD 0xFF)

/-! ## Checks (R207, R212) -/

/-- One bit of the CRC-16 with polynomial 0x1021. -/
def crcBit (c : BitVec 16) : BitVec 16 := if c.msb then (c <<< 1) ^^^ 0x1021#16 else c <<< 1

/-- One byte of the CRC-16. -/
def crcByte (c : BitVec 16) (b : Byte) : BitVec 16 :=
  let x := c ^^^ ((b.setWidth 16) <<< 8)
  crcBit (crcBit (crcBit (crcBit (crcBit (crcBit (crcBit (crcBit x)))))))

/-- CRC-16: polynomial 0x1021, initial value 0xFFFF, no reflection, no final inversion (R207). -/
def crc16 (bs : List Byte) : BitVec 16 := bs.foldl crcByte 0xFFFF#16

/-- The check of some bytes, high byte first. -/
def crcBytes (bs : List Byte) : List Byte := be 2 (crc16 bs).toNat

/-! ## Collection of frames from bytes (R207, R211) -/

/-- What the bytes collected so far say of a frame's length in bytes, marker and check included. -/
inductive Extent where
  | unknown
  | bad
  | whole (n : Nat)
deriving DecidableEq, Repr

/-- One byte received while the bytes `buf` of a frame are collected, none when no frame is: a byte other than the marker is
ignored between frames and is data inside one; a bad length ends the collection at its last byte; a whole frame is handed
on, good or not (R207, R211). -/
def collectByte (marker : Byte) (extent : List Byte → Extent) (buf : List Byte) (b : Byte) :
    List Byte × List (List Byte) :=
  match buf with
  | [] => if b = marker then ([b], []) else ([], [])
  | m :: t =>
    let x := m :: t ++ [b]
    match extent x with
    | .unknown => (x, [])
    | .bad => ([], [])
    | .whole n => if x.length < n then (x, []) else ([], [x])

/-- Bytes received in order: the bytes of a frame still under collection, and the frames collected. -/
def collect (marker : Byte) (extent : List Byte → Extent) (buf bytes : List Byte) : List Byte × List (List Byte) :=
  bytes.foldl
    (fun acc b =>
      let r := collectByte marker extent acc.1 b
      (r.1, acc.2 ++ r.2))
    (buf, [])

/-! ## Link frames (R207) -/

/-- A request frame as received: its code, tag and payload. -/
structure LinkFrame where
  code : Byte
  tag : Byte
  payload : List Byte
deriving DecidableEq, Repr

/-- Check 1 of R193 on the bytes collected from the start marker on: the length is at most 1,024 and agrees with the
frame, and the check over length, code, tag and payload is good. -/
def parseLinkFrame (bytes : List Byte) : Option LinkFrame :=
  match bytes with
  | m :: l1 :: l0 :: code :: tag :: rest =>
    let len := ofBe [l1, l0]
    if m = 0x7E#8 ∧ len ≤ Config.maxPayload ∧ rest.length = len + 2
        ∧ rest.drop len = crcBytes (l1 :: l0 :: code :: tag :: rest.take len) then
      some ⟨code, tag, rest.take len⟩
    else none
  | _ => none

/-- What the bytes of a link frame so far say of its length: a payload above 1,024 bytes is bad (R207). -/
def linkExtent (bytes : List Byte) : Extent :=
  match bytes with
  | _ :: l1 :: l0 :: _ => if ofBe [l1, l0] ≤ Config.maxPayload then .whole (ofBe [l1, l0] + 7) else .bad
  | _ => .unknown

/-- The good frames a port collects from bytes that it receives between frames (R207). -/
def linkFrames (bytes : List Byte) : List LinkFrame :=
  (collect 0x7E#8 linkExtent [] bytes).2.filterMap parseLinkFrame

/-- The bytes of a request frame (R207). -/
def LinkFrame.bytes (f : LinkFrame) : List Byte :=
  let body := be 2 f.payload.length ++ [f.code, f.tag] ++ f.payload
  0x7E#8 :: (body ++ crcBytes body)

/-- The bytes of a response frame: the length counts the result code and the payload (R207). -/
def Response.bytes (r : Response) : List Byte :=
  let body := be 2 (1 + r.payload.length) ++ [r.code, r.tag] ++ be 1 r.result.code ++ r.payload
  0x7E#8 :: (body ++ crcBytes body)

/-! ## Records the masters see as stored (R212 to R214) -/

/-- Bytes 0 to 29 of an interval record (R213). A duration above 65,535 s is written modulo 65,536 (DESIGN CHOICE, log 32). -/
def IntervalRecord.fields (r : IntervalRecord) : List Byte :=
  be 4 r.number ++ be 4 r.start ++ be 1 r.gen ++ be 1 r.band ++ be 2 r.duration ++ be 4 r.imp ++ be 4 r.exp
    ++ be 4 (r.generation.getD 0) ++ be 2 r.flags.bits ++ be 1 (r.missed.getD 0) ++ be 3 0

/-- The 32 bytes of an interval record, check included (R213). -/
def IntervalRecord.bytes (r : IntervalRecord) : List Byte := r.fields ++ crcBytes r.fields

/-- The fifteen registers, 8 B each, in the order of R214. -/
def Registers.bytes (g : Registers) : List Byte :=
  (g.imp.toList ++ g.exp.toList ++ [g.totalImp, g.totalExp, g.gen]).flatMap (be 8)

/-- A max-demand entry, 8 B; an absent end time is 0 (R214). -/
def Demand.bytes (d : Demand) : List Byte := be 4 d.watts ++ be 4 (d.endTime.getD 0)

/-- The seven max-demand entries: import bands 1 to 6, then the other direction (R214). -/
def Demands.bytes (d : Demands) : List Byte := (d.imp.toList ++ [d.exp]).flatMap Demand.bytes

/-- Bytes 0 to 195 of a frozen-set page (R214). -/
def FrozenSet.fields (f : FrozenSet) : List Byte :=
  be 4 f.number ++ be 4 f.time ++ be 1 f.gen ++ be 1 f.cause.code
    ++ be 1 (bitAt 0 f.timeInvalid + bitAt 1 f.billingDate.isSome + bitAt 2 f.calendarId.isSome) ++ be 1 0
    ++ (match f.billingDate with | some d => dateBytes d | none => be 4 0)
    ++ be 2 (f.calendarId.getD 0) ++ be 2 0 ++ f.regs.bytes ++ f.demands.bytes

/-- Bytes 0 to 197 of a frozen-set page, as READ_FROZEN returns them (R212, R214). -/
def FrozenSet.bytes (f : FrozenSet) : List Byte := f.fields ++ crcBytes f.fields

/-- A directive entry of 20 B (R216). -/
def Directive.bytes (d : Directive) (governing : Bool) : List Byte :=
  be 2 d.id ++ be 4 d.limit ++ be 4 d.start ++ be 4 (d.stop.getD 0) ++ be 1 d.priority ++ be 4 d.seq
    ++ be 1 (bitAt 0 d.stop.isSome + bitAt 1 d.active + bitAt 2 governing)

/-- The slot map's value: the role codes of slots 1 to 7 (R209). -/
def SlotMap.bytes (m : SlotMap) : List Byte := m.toList.flatMap fun r => be 1 r.code

/-- The pending map behind its presence byte (R209). -/
def pendingMapBytes : Option SlotMap → List Byte
  | none => be 1 0 ++ be 7 0
  | some m => be 1 1 ++ m.bytes

/-! ## Latched parts (R217) -/

/-- The unread parts, bits 0 to 3 for parts 1 to 4. -/
def Unread.bits (u : Unread) : Nat := bitAt 0 u.p1 + bitAt 1 u.p2 + bitAt 2 u.p3 + bitAt 3 u.p4

/-- Part n of a latch, n in 1..4. -/
def Latch.part (l : Latch) (n : Nat) : List Byte :=
  match n with
  | 1 =>
    be 4 l.time ++ be 1 (validityCode l.valid) ++ be 1 l.gen ++ be 1 l.band ++ be 4 l.freezeCounter
      ++ optBe 2 l.table.calendarId ++ be 4 l.effective ++ be 4 l.enforced ++ be 2 l.notice ++ be 1 l.handshake.code
      ++ be 1 l.interlock.code
  | 2 => (l.table.regs.imp.toList ++ [l.table.regs.totalImp]).flatMap (be 8) ++ be 2 l.table.res.imp
  | 3 =>
    (l.table.regs.exp.toList ++ [l.table.regs.totalExp]).flatMap (be 8) ++ be 2 l.table.res.exp
      ++ be 8 l.table.regs.gen ++ be 2 l.table.res.gen
  | _ => l.table.demands.bytes

end Sys2Proof.Machine
end

