-- ==== Sys2Proof/Machine/Operands.lean ====
section
/-! DEFINITION. Request payloads: the layouts of R208 and R209. Each reader answers none where the payload does not have a
length the layout allows (R207). -/

namespace Sys2Proof.Machine

/-- No payload. -/
def readEmpty (pl : List Byte) : Option Unit := if pl = [] then some () else none

/-- One number that fills the payload of k bytes. -/
def readNumber (k : Nat) (pl : List Byte) : Option Nat := if pl.length = k then some (ofBe pl) else none

/-- A role by its code (R211). -/
def roleOfCode : Nat → Option Role
  | 0 => some .unused
  | 1 => some .phaseA
  | 2 => some .phaseB
  | 3 => some .phaseC
  | 4 => some .gen
  | _ => none

/-- A slot map from its 7 bytes; none when a byte is no role code (R209, R211). -/
def readRoles (pl : List Byte) : Option SlotMap :=
  match pl.map fun b => roleOfCode b.toNat with
  | [some a, some b, some c, some d, some e, some f, some g] => some ⟨a, b, c, d, e, f, g⟩
  | _ => none

/-- READ_LATCHED: a part number, or empty for the next unread part (R208). -/
def readPartNumber (pl : List Byte) : Option (Option Nat) :=
  match pl with
  | [] => some none
  | [b] => some (some b.toNat)
  | _ => none

/-- READ_CALENDAR: role and part (R208). -/
def readRolePart (pl : List Byte) : Option (Nat × Nat) :=
  match pl with
  | [r, q] => some (r.toNat, q.toNat)
  | _ => none

/-- BEGIN_CALENDAR: calendar id, default band, activation time (R208). -/
def readBegin (pl : List Byte) : Option (Nat × Nat × Nat) :=
  if pl.length = 7 then some (ofBe (pl.take 2), ofBe ((pl.drop 2).take 1), ofBe (pl.drop 3)) else none

/-- Switch points, 3 B each. -/
def readPoints : List Byte → Option (List SwitchPoint)
  | [] => some []
  | m1 :: m0 :: b :: t => (readPoints t).map (⟨ofBe [m1, m0], b.toNat⟩ :: ·)
  | _ => none

/-- LOAD_DAY_PROFILE: index, count, switch points; the count agrees with the bytes that follow (R207, R208). -/
def readDayProfile (pl : List Byte) : Option (Nat × List SwitchPoint) :=
  match pl with
  | i :: n :: rest =>
    match readPoints rest with
    | some ps => if ps.length = n.toNat then some (i.toNat, ps) else none
    | none => none
  | _ => none

/-- Pairs of bytes. -/
def readPairs : List Byte → Option (List (Nat × Nat))
  | [] => some []
  | a :: b :: t => (readPairs t).map ((a.toNat, b.toNat) :: ·)
  | _ => none

/-- LOAD_WEEK: count, then a weekday and a profile index each (R208). -/
def readWeek (pl : List Byte) : Option (List (Nat × Nat)) :=
  match pl with
  | n :: rest =>
    match readPairs rest with
    | some es => if es.length = n.toNat then some es else none
    | none => none
  | _ => none

/-- Special days, 5 B each; a year of 0 means absent (R208). -/
def readSpecials : List Byte → Option (List SpecialDay)
  | [] => some []
  | m :: d :: y1 :: y0 :: i :: t =>
    let y := ofBe [y1, y0]
    (readSpecials t).map (⟨m.toNat, d.toNat, if y = 0 then none else some y, i.toNat⟩ :: ·)
  | _ => none

/-- LOAD_SPECIAL_DAY: count, then the entries (R208). -/
def readSpecialList (pl : List Byte) : Option (List SpecialDay) :=
  match pl with
  | n :: rest =>
    match readSpecials rest with
    | some es => if es.length = n.toNat then some es else none
    | none => none
  | _ => none

/-- READ_PROFILE_AT: append number and count (R208). -/
def readAt (pl : List Byte) : Option (Nat × Nat) :=
  if pl.length = 5 then some (ofBe (pl.take 4), ofBe (pl.drop 4)) else none

/-- The fields of POST_DIRECTIVE (R208). -/
structure PostFields where
  id : Nat
  limit : Nat
  start : Nat
  presence : Nat
  stop : Nat
  priority : Nat
deriving DecidableEq, Repr

/-- POST_DIRECTIVE: id 2, limit 4, start 4, end presence 1, end 4, priority 1 (R208). -/
def readPost (pl : List Byte) : Option PostFields :=
  if pl.length = 16 then
    some
      { id := ofBe (pl.take 2)
        limit := ofBe ((pl.drop 2).take 4)
        start := ofBe ((pl.drop 6).take 4)
        presence := ofBe ((pl.drop 10).take 1)
        stop := ofBe ((pl.drop 11).take 4)
        priority := ofBe (pl.drop 15) }
  else none

/-- SET_PROTECTION: level and lock bytes (R208). -/
def readProtection (pl : List Byte) : Option (Nat × Nat) := readRolePart pl

/-- The length in bytes of a configuration item's value (R209). -/
def itemLength : Nat → Option Nat
  | 1 => some 7
  | 2 | 3 | 4 | 7 => some 1
  | 5 => some 4
  | 6 | 8 | 9 | 10 | 11 => some 2
  | _ => none

/-- Whether a WRITE_CONFIG payload names a known item with a value of its length (R197, R209). -/
def knownItem (pl : List Byte) : Bool :=
  match pl with
  | [] => false
  | c :: value => itemLength c.toNat == some value.length

end Sys2Proof.Machine
end

