-- ==== Sys2Proof/Machine/PortOps.lean ====
section
/-! DEFINITION. The port controllers' check order (R192, R193), the privileges (R194, R195), the session, write-enable and
protection checks (R65, R167, R196), and the handing of an admitted request to its owner. -/

namespace Sys2Proof.Machine

/-- The request codes of the table of R208. -/
def knownCode (code : Byte) : Bool :=
  let c := code.toNat
  (1 ≤ c && c ≤ 8) || c == 0x10 || c == 0x11 || (0x20 ≤ c && c ≤ 0x22) || (0x30 ≤ c && c ≤ 0x36)
    || (0x40 ≤ c && c ≤ 0x42) || c == 0x50 || c == 0x51 || (0x60 ≤ c && c ≤ 0x66) || (0x70 ≤ c && c ≤ 0x75)

/-- What each master may issue (R194, R195). `coverOpen` is the cover as the Optical Port holds it. A READ_CALENDAR from SL
that names WAITING is refused here too; one whose role byte is neither code, or that has none, is left to check 9 (DESIGN
CHOICE, log 31). -/
def mayIssue (p : PortId) (code : Byte) (payload : List Byte) (coverOpen : Bool) : Bool :=
  let c := code.toNat
  match p with
  | .ulk => !(c == 0x63 || c == 0x64)
  | .slk =>
    (1 ≤ c && c ≤ 7) || c == 0x20 || (c == 0x30 && payload.head? != some 1) || c == 0x40 || c == 0x41
      || (0x63 ≤ c && c ≤ 0x66) || c == 0x73
  | .opt =>
    (1 ≤ c && c ≤ 7) || c == 0x10 || c == 0x20 || c == 0x30 || c == 0x42 || c == 0x51 || c == 0x65 || c == 0x66
      || c == 0x73 || (coverOpen && (c == 0x08 || c == 0x11 || c == 0x71))

/-- The session requests (R65). -/
def sessionCode (code : Byte) : Bool := 0x32 ≤ code.toNat && code.toNat ≤ 0x36

/-- A calendar load session is open exactly while the pending slot is LOADING (R65, log 28). -/
def State.sessionOpen (s : State) : Bool :=
  match s.tcu.slot with
  | .loading _ => true
  | .empty | .waiting _ => false

/-- Check 6, on the Utility Link alone (R193). -/
def sessionRefusal (s : State) (p : PortId) (code : Byte) : Option Result :=
  match p with
  | .slk | .opt => none
  | .ulk =>
    if s.sessionOpen then
      if sessionCode code || code == 0x01 || code == 0x02 then none else some .sessionOpen
    else if sessionCode code then some .noSession else none

/-- Check 8: what the protection level refuses (R167). -/
def protectionRefuses (level : Nat) (code : Byte) (payload : List Byte) : Bool :=
  if code == 0x11 then
    decide (2 ≤ level) || (level == 1 && (payload.head? == some 1 || payload.head? == some 2))
  else code == 0x31 && decide (3 ≤ level)

/-- Checks 4 to 8 in their order: the first that fails (R193). -/
def portRefusal (s : State) (p : PortId) (code : Byte) (payload : List Byte) : Option Result :=
  if mayIssue p code payload ((s.port p).coverView == .opened) then
    if s.ssv.supply == .start then some .notReady
    else match sessionRefusal s p code with
      | some r => some r
      | none =>
        if protectedCode code && !(s.port p).writeEnable then some .writeNotEnabled
        else if protectionRefuses s.dsc.level code payload then some .protectedByLevel
        else none
  else some .notPermitted

/-- The port sends a response that is not the answer to an admitted request: a BUSY, or a refusal of its own. -/
def State.respond (s : State) (p : PortId) (code tag : Byte) (res : Result) : State :=
  s.setPort p { s.port p with sent := some ⟨code, tag, res, []⟩ }

/-- A refusal at the port. One at check 8 comes after check 7 passed and uses up the write-enable latch (R196). -/
def State.refuseAtPort (s : State) (p : PortId) (code tag : Byte) (res : Result) : State :=
  let x := s.port p
  s.setPort p
    { x with
      sent := some ⟨code, tag, res, []⟩
      writeEnable := if res = .protectedByLevel then x.writeEnable && !protectedCode code else x.writeEnable }

/-- The port becomes SERVING with the request in progress (R192). -/
def State.beginRequest (s : State) (p : PortId) (code tag : Byte) : State :=
  let x := s.port p
  s.setPort p { x with inProgress := some ⟨code, tag, x.serial + 1, none⟩, serial := x.serial + 1 }

/-- The request a port has just admitted. -/
def State.originAt (s : State) (p : PortId) : Origin := ⟨p, (s.port p).serial⟩

/-- Whether a port takes frames at all: not in HOLDUP, where it discards them unchecked, nor in BACKUP (R180, R183). -/
def State.portsListen (s : State) : Bool :=
  match s.ssv.supply with
  | .start | .mains => true
  | .holdup | .backup => false

/-- A port takes a request frame that passed check 1, up to the hand-over (R192, R193): BUSY while SERVING, the port's own
refusals, BAD_ARGUMENT for a payload whose length the layout does not allow (R207), and otherwise the owner. The checks and
the owner's taking of the request are one event, so that nothing falls between them (DESIGN CHOICE, log 32). A payload of more
than 1,024 bytes fails check 1. -/
def State.serve (s : State) (p : PortId) (code tag : Byte) (payload : List Byte) (lengthAllowed : Bool)
    (owner : Origin → State → State) : State :=
  if !s.portsListen || decide (Config.maxPayload < payload.length) then s
  else if (s.port p).inProgress.isSome then s.respond p code tag .busy
  else match portRefusal s p code payload with
    | some res => s.refuseAtPort p code tag res
    | none =>
      let s1 := s.beginRequest p code tag
      if lengthAllowed then owner (s1.originAt p) s1 else s1.reply (s1.originAt p) .badArgument []

/-- `serve` with the payload read by its layout first; the owner gets what was read. -/
def State.serveWith {α : Type} (s : State) (p : PortId) (code tag : Byte) (payload : List Byte) (read : Option α)
    (owner : α → Origin → State → State) : State :=
  match read with
  | some a => s.serve p code tag payload true (owner a)
  | none => s.serve p code tag payload false (fun _ t => t)

end Sys2Proof.Machine
end

