-- ==== Sys2Proof/Machine/Clock.lean ====
section
/-! DEFINITION. The Calendar Clock (chapter 3): the one-second advance, READ_TIME, SET_TIME, ADJUST_TIME. -/

namespace Sys2Proof.Machine

/-! ## The advance (R43, R45) -/

/-- Whether the clock is running: on every supply, and in BACKUP on the cell while it keeps the cell domain (R53, log 26). -/
def State.clockRuns (s : State) : Bool :=
  match s.ssv.supply with
  | .start | .mains | .holdup => true
  | .backup => s.ssv.retention

/-- TIME_UNSET enters or leaves the Utility Link's set; a part in BACKUP has no ports (R45). -/
def State.reportUnset (s : State) (present : Bool) : State :=
  if s.ssv.supply = .backup then s else s.report .ulk .timeUnset present

/-- The advance from the last time: 0, UNSET, the next generation, and a change of kind WRAP, whose due tests follow the
notices (R43, R45, R46, R52). -/
def State.wrapClock (s : State) : State :=
  (s.changeTime .wrap 0 (nextGen s.cck.gen) false).reportUnset true

/-- The advance by 1 s, and the test of the armed slots (R43, R51). -/
def State.advanceClock (s : State) : State :=
  let s1 := s.setCck { s.cck with phaseMs := 0 }
  if s1.cck.time = Config.maxTime then s1.wrapClock
  else (s1.setCck { s1.cck with time := s1.cck.time + 1 }).testSlots .byAdvance

/-- CLOCK_ADVANCE (R43, R53): the second phase completes. -/
def execClockAdvance (s : State) : Host.Outcome State Fault Refusal :=
  .next (if s.clockRuns then s.advanceClock else s)

/-! ## READ_TIME (R47) -/

/-- The calendar form of a time (R44, R219). -/
def calendarForm (t : Nat) : List Byte :=
  dateBytes (dateOf t) ++ be 1 (weekday t) ++ be 1 (minuteOfDay t / 60) ++ be 1 (minuteOfDay t % 60) ++ be 1 (t % 60)

/-- The answer of READ_TIME (R47, R219). -/
def Cck.readTime (c : Cck) : List Byte :=
  be 4 c.time ++ be 1 (validityCode c.valid) ++ be 1 c.gen ++ calendarForm c.time

/-- CCK answers READ_TIME (R47). -/
def State.answerTime (o : Origin) (s : State) : State := s.reply o .ok s.cck.readTime

/-- A port takes READ_TIME (R47). -/
def serveReadTime (p : PortId) (tag : Byte) (payload : List Byte) (s : State) : State :=
  s.serveWith p 0x20 tag payload (readEmpty payload) (fun _ o t => t.answerTime o)

/-! ## SET_TIME (R48) -/

/-- CCK takes a SET_TIME (R45, R48). The due test of each owner follows its notice (R52). -/
def State.setClock (time : Nat) (o : Origin) (s : State) : State :=
  let gen := nextGen s.cck.gen
  let s1 := (s.setCck { s.cck with phaseMs := 0 }).changeTime .set time gen true
  let s2 := if s.cck.valid then s1 else s1.reportUnset false
  s2.reply o .ok (be 4 time ++ be 1 gen)

/-- A port takes SET_TIME (R48). -/
def serveSetTime (p : PortId) (tag : Byte) (payload : List Byte) (s : State) : State :=
  s.serveWith p 0x21 tag payload (readNumber 4 payload) State.setClock

/-! ## ADJUST_TIME (R49, R50) -/

/-- Whether an adjustment is a small trim, judged with IPU's current length and effective start (R49). -/
def State.smallTrim (s : State) (delta : Int) (time : Nat) : Bool :=
  decide (delta.natAbs ≤ 30) && slotStartOf s.ipu.length s.cck.time == slotStartOf s.ipu.length time
    && (match s.ipu.interval with
        | some iv => decide (iv.start ≤ time)
        | none => true)

/-- CCK carries out an adjustment to a time (R50). -/
def State.adjustTo (s : State) (delta : Int) (time : Nat) (o : Origin) : State :=
  if s.smallTrim delta time then
    (s.changeTime .trim time s.cck.gen s.cck.valid).reply o .ok (be 4 time ++ be 1 s.cck.gen ++ be 1 0)
  else
    let gen := nextGen s.cck.gen
    (s.changeTime .adjust time gen true).reply o .ok (be 4 time ++ be 1 gen ++ be 1 1)

/-- CCK takes an ADJUST_TIME (R49, R50). -/
def State.adjustClock (delta : Int) (o : Origin) (s : State) : State :=
  let target : Int := s.cck.time + delta
  if s.cck.valid && decide (0 ≤ target) && decide (target ≤ Config.maxTime) then
    if delta = 0 then s.reply o .ok (be 4 s.cck.time ++ be 1 s.cck.gen ++ be 1 0xFF)
    else s.adjustTo delta target.toNat o
  else s.reply o .badArgument []

/-- A port takes ADJUST_TIME (R49). -/
def serveAdjustTime (p : PortId) (tag : Byte) (payload : List Byte) (s : State) : State :=
  s.serveWith p 0x22 tag payload (readNumber 4 payload) (fun n => State.adjustClock (signed32 n))

end Sys2Proof.Machine
end

