-- ==== Sys2Proof/Machine/Queue.lean ====
section
/-! DEFINITION. DSC's client queue as its clients use it (R155, R156, R163), and DSC's reports to them. -/

namespace Sys2Proof.Machine

/-- The priority of a client's requests (R155). -/
def Client.priority : Client → Nat
  | .holdup => 1
  | .routineImage | .commandedImage _ | .imageErase => 2
  | .frozenWrite | .frozenErase _ => 3
  | .append | .profileErase _ => 4
  | .calendarErase _ | .calendarWrite _ _ | .calendarMark | .config _ _ | .lengthWrite _ _ _ | .lengthRestore _ _
  | .lifecycleMark _ => 5
  | .profileRead _ _ _ | .frozenRead _ _ => 6

/-- Whether a request only reads (R155, R160). -/
def Client.isRead : Client → Bool
  | .profileRead _ _ _ | .frozenRead _ _ => true
  | .holdup | .routineImage | .commandedImage _ | .imageErase | .frozenWrite | .frozenErase _ | .append | .profileErase _
  | .calendarErase _ | .calendarWrite _ _ | .calendarMark | .config _ _ | .lengthWrite _ _ _ | .lengthRestore _ _
  | .lifecycleMark _ => false

/-- Whether a request writes a commit image (R155). -/
def Client.isImage : Client → Bool
  | .holdup | .routineImage | .commandedImage _ => true
  | .imageErase | .frozenWrite | .frozenErase _ | .append | .profileErase _ | .calendarErase _ | .calendarWrite _ _
  | .calendarMark | .config _ _ | .lengthWrite _ _ _ | .lengthRestore _ _ | .lifecycleMark _ | .profileRead _ _ _
  | .frozenRead _ _ => false

/-- Whether a request writes a routine or a commanded image (R155, R164). -/
def Client.isServiceImage (c : Client) : Bool := c.isImage && c != .holdup

/-- Whether a request writes a configuration record (R166). -/
def Client.isConfig : Client → Bool
  | .config _ _ | .lengthWrite _ _ _ | .lengthRestore _ _ => true
  | .holdup | .routineImage | .commandedImage _ | .imageErase | .frozenWrite | .frozenErase _ | .append | .profileErase _
  | .calendarErase _ | .calendarWrite _ _ | .calendarMark | .lifecycleMark _ | .profileRead _ _ _ | .frozenRead _ _ => false

/-- A request placed behind every one of its priority or a higher one (R155). -/
def insertRequest (r : StoreRequest) : List StoreRequest → List StoreRequest
  | [] => [r]
  | x :: t => if x.priority ≤ r.priority then x :: insertRequest r t else r :: x :: t

/-- DSC sends a client a report (R156). -/
def State.sendStore (s : State) (m : StoreMail) : State := s.setMail { s.mail with store := s.mail.store ++ [m] }

/-- DSC refuses a request to its client with STORE_FAULT (R155, R158). Images that only DSC wants, its erase-ahead and an
activation mark have no client to tell (R74, R163, R164). -/
def State.refuseClient (s : State) (c : Client) : State :=
  match c with
  | .commandedImage o => s.setMail { s.mail with ssv := s.mail.ssv ++ [.commandedImage o false] }
  | .holdup | .routineImage | .imageErase | .calendarMark => s
  | .frozenWrite | .frozenErase _ | .append | .profileErase _ | .calendarErase _ | .calendarWrite _ _ | .config _ _
  | .lengthWrite _ _ _ | .lengthRestore _ _ | .lifecycleMark _ | .profileRead _ _ _ | .frozenRead _ _ =>
    s.sendStore ⟨c, .refused, [], none⟩

/-- A client places a request (R155): refused at once in FAULT, unless it reads or is the hold-up commit. An image or a
configuration write gets its operations at its first grant (R163, R166). -/
def State.enqueue (s : State) (c : Client) (ops : List ArrayOp) : State :=
  if s.dsc.fault && !c.isRead && c != .holdup then s.refuseClient c
  else
    s.setDsc { s.dsc with
      nextId := s.dsc.nextId + 1
      queue := insertRequest ⟨s.dsc.nextId, c.priority, c, ops, !(c.isImage || c.isConfig), false, [], none⟩ s.dsc.queue }

/-- While the flag is set, outside FAULT, with no routine image request unfinished, DSC places one (R163); none when the
last image sequence has been given (R165). -/
def State.placeRoutine (s : State) : State :=
  if s.dsc.imageWanted && !s.dsc.fault && !s.dsc.seqSpent && !(s.dsc.queue.any fun r => r.client == .routineImage) then
    s.enqueue .routineImage []
  else s

/-- A trigger of a routine image (R163). -/
def State.wantImage (s : State) : State := (s.setDsc { s.dsc with imageWanted := true }).placeRoutine

/-- Who takes a report of DSC. -/
inductive Receiver where
  | ipu | bfu | tcu | nau | mfp | ecu | dsc
deriving DecidableEq, Repr

/-- The unit that owns a configuration item (R197, R168). -/
def ConfigWrite.owner : ConfigWrite → Receiver
  | .slotMap _ => .mfp
  | .netting _ => .nau
  | .length _ | .utilityThreshold _ | .siteThreshold _ => .ipu
  | .billingDay _ => .bfu
  | .staticLimit _ | .tolerance _ | .grace _ | .ackTime _ | .minOpen _ => .ecu
  | .protection _ _ => .dsc

/-- The unit a client's reports go to. -/
def Client.receiver : Client → Receiver
  | .append | .profileErase _ | .lengthWrite _ _ _ | .lengthRestore _ _ | .profileRead _ _ _ => .ipu
  | .frozenWrite | .frozenErase _ | .frozenRead _ _ => .bfu
  | .calendarErase _ | .calendarWrite _ _ | .calendarMark => .tcu
  | .config w _ => w.owner
  | .holdup | .routineImage | .commandedImage _ | .imageErase | .lifecycleMark _ => .dsc

/-- The oldest report in transit to a unit, and the state without it (log 6). -/
def State.takeStore (s : State) (u : Receiver) : Option (StoreMail × State) :=
  match takeFirst (fun m => m.client.receiver == u) s.mail.store with
  | some (m, rest) => some (m, s.setMail { s.mail with store := rest })
  | none => none

end Sys2Proof.Machine
end

