-- ==== Sys2Proof/Machine/Tariff.lean ====
section
/-! DEFINITION. The Tariff Calendar Unit (chapter 4): the band decision, activation, the calendar load session, calendar
reads and the calendar-region writes. -/

namespace Sys2Proof.Machine

/-! ## The band decision (R58, R59) -/

/-- The day profile's index for a date and weekday (R58). -/
def Calendar.profileFor (c : Calendar) (d : Date) (wd : Nat) : Option Nat :=
  match c.specials.find? fun x => x.year == some d.year && x.month == d.month && x.day == d.day with
  | some x => some x.profile
  | none =>
    match c.specials.find? fun x => x.year == none && x.month == d.month && x.day == d.day with
    | some x => some x.profile
    | none => (c.week.toList[wd]?).join

/-- The switch points in force on the day of a time; none loaded gives no point. -/
def Calendar.pointsAt (c : Calendar) (t : Nat) : List SwitchPoint :=
  match c.profileFor (dateOf t) (weekday t) with
  | some i => ((c.profiles.toList[i]?).join).getD []
  | none => []

/-- The band of the last switch point at or before the minute of the day; a valid calendar always has one (R59). -/
def Calendar.bandAt (c : Calendar) (t : Nat) : Nat :=
  (c.pointsAt t).foldl (fun acc p => if p.minute ≤ minuteOfDay t then p.band else acc) c.defaultBand

/-- The band TCU decides for a time under a validity (R59). -/
def Tcu.decide (u : Tcu) (t : Nat) (valid : Bool) : Nat :=
  match u.active with
  | none => 1
  | some r => if valid then r.calendar.bandAt t else r.calendar.defaultBand

/-- TCU decides its band; a band that changes is reported to IPU with the time of the decision (R59, R60). -/
def State.decideBand (s : State) (t : Nat) (valid : Bool) : State :=
  let b := s.tcu.decide t valid
  if b = s.tcu.band then s
  else (s.setTcu { s.tcu with band := b }).setMail { s.mail with ipuBands := s.mail.ipuBands ++ [⟨b, t⟩] }

/-! ## Due time and activation boundary (R61, R73) -/

/-- The time of the first switch point later today than the present minute of the day (R61). -/
def Calendar.nextSwitch (c : Calendar) (t : Nat) : Option Nat :=
  ((c.pointsAt t).find? fun p => minuteOfDay t < p.minute).map fun p => dayNumber t * 86400 + p.minute * 60

/-- TCU's due time (R61). -/
def Tcu.dueTime (u : Tcu) (t : Nat) (valid : Bool) : Option Nat :=
  match u.active with
  | some r => if valid then earliest [r.calendar.nextSwitch t, some ((dayNumber t + 1) * 86400), u.boundary] else u.boundary
  | none => u.boundary

/-- TCU re-arms its slot (R61). -/
def State.armTcu (s : State) (t : Nat) (valid : Bool) (how : Reached) : State := s.arm .tcu (s.tcu.dueTime t valid) how

/-- TCU re-arms its slot while it takes a message of CCK (R52, R61). -/
def State.armTcuInTurn (s : State) (t : Nat) (valid : Bool) (how : Reached) : State :=
  s.armInTurn .tcu (s.tcu.dueTime t valid) how

/-- The activation boundary under a time and validity, with IPU's current interval length (R73). -/
def Tcu.boundaryAt (u : Tcu) (minutes t : Nat) (valid : Bool) : Option Nat :=
  match u.slot with
  | .waiting r => if valid then some (activationBoundary minutes t r.calendar.activation) else none
  | .empty | .loading _ => none

/-- TCU computes the activation boundary (R73). -/
def State.computeBoundary (s : State) (t : Nat) (valid : Bool) : State :=
  s.setTcu { s.tcu with boundary := s.tcu.boundaryAt s.ipu.length t valid }

/-- TCU computes the boundary at the present time and re-arms (R61, R73). DESIGN CHOICE (log 31): a report of a new length taken
in the very second of the boundary, before TCU's due event, moves the boundary on, since it is strictly later than the
present time, though R73 says that a boundary due at that moment is one under either length. -/
def State.renewBoundary (s : State) : State :=
  (s.computeBoundary s.cck.time s.cck.valid).armTcu s.cck.time s.cck.valid .byAdvance

/-! ## Activation, due events and notices (R62, R63, R74) -/

/-- The sector with the pending role (R76). -/
def Tcu.pendingSector (u : Tcu) : Nat := 7 - u.activeSector

/-- TCU asks DSC to program the activation mark into the active-role sector (R74, R77). -/
def State.askMark (s : State) : State := s.enqueue .calendarMark [.program (.activationMark s.tcu.activeSector)]

/-- The waiting calendar becomes active (R74 steps 1 to 5). -/
def State.activate (s : State) (r : CalendarRecord) (boundary : Nat) : State :=
  let s1 := s.setTcu
    { s.tcu with active := some r, activeSector := s.tcu.pendingSector, slot := .empty, boundary := none }
  (s1.setMail { s1.mail with ipuActivations := s1.mail.ipuActivations ++ [⟨boundary, r.calendar.id⟩] }).askMark

/-- Step 1 of R62: activation when the boundary is at or before the present time. -/
def State.activateDue (s : State) (present : Nat) : State :=
  match s.tcu.slot, s.tcu.boundary with
  | .waiting r, some b => if b ≤ present then s.activate r b else s
  | _, _ => s

/-- TCU takes a due event (R62). -/
def State.tcuTakeDue (s : State) (d : Due) : State :=
  ((s.activateDue d.present).decideBand d.present s.cck.valid).armTcuInTurn d.present s.cck.valid .byAdvance

/-- TCU_DUE_EVENT (R62). -/
def execTcuDueEvent (s : State) : Host.Outcome State Fault Refusal :=
  .next
    (match s.takeDue .tcu with
    | some (d, t) => t.tcuTakeDue d
    | none => s)

/-- TCU takes a change notice (R63); the due test follows it (R52). -/
def State.tcuTakeNotice (s : State) (n : Notice) : State :=
  ((s.computeBoundary n.newTime n.newValid).decideBand n.newTime n.newValid).armTcuInTurn n.newTime n.newValid .byChange

/-- TCU_CHANGE_NOTICE (R63). -/
def execTcuChangeNotice (s : State) : Host.Outcome State Fault Refusal :=
  .next
    (match s.takeNotice .tcu with
    | some (n, t) => t.tcuTakeNotice n
    | none => s)

/-- TCU_INTERVAL_LENGTH_REPORT (R73). -/
def execTcuIntervalLengthReport (s : State) : Host.Outcome State Fault Refusal :=
  .next
    (if s.mail.tcuLengths ≠ 0 ∧ s.inService .tcu then
      (s.setMail { s.mail with tcuLengths := s.mail.tcuLengths - 1 }).renewBoundary
    else s)

/-- TCU_RESUMPTION (R77, R78): boundary, band, due slot, and a mark that is owed. -/
def execTcuResumption (s : State) : Host.Outcome State Fault Refusal :=
  .next
    (if s.ssv.resumed && s.ssv.owed.tcu then
      let s1 := s.setSsv { s.ssv with owed := { s.ssv.owed with tcu := false } }
      let s2 := (s1.computeBoundary s1.cck.time s1.cck.valid).decideBand s1.cck.time s1.cck.valid
      let s3 := s2.armTcu s2.cck.time s2.cck.valid .byAdvance
      if s3.tcu.markOwed then (s3.setTcu { s3.tcu with markOwed := false }).askMark else s3
    else s)

/-! ## The session (R64, R65, R71, R72) -/

/-- A staged calendar with nothing loaded (R64). -/
def Calendar.staged (id defaultBand activation : Nat) : Calendar :=
  { id := id, defaultBand := defaultBand, activation := activation, profiles := Vector.replicate 8 none,
    week := Vector.replicate 7 none, specials := [] }

/-- TCU takes a BEGIN_CALENDAR (R64). The port lets none through while the slot is LOADING (R65). -/
def State.beginCalendar (f : Nat × Nat × Nat) (o : Origin) (s : State) : State :=
  let staged := Calendar.staged f.1 f.2.1 f.2.2
  match s.tcu.slot with
  | .loading _ => s.reply o .sessionOpen []
  | .empty =>
    (s.setTcu { s.tcu with slot := .loading staged, sessionMs := some Config.sessionMs }).reply o .ok []
  | .waiting r =>
    let s1 := s.setTcu
      { s.tcu with
        boundary := none
        discarded := r.seq
        slot := .loading staged
        sessionMs := none
        action := .discardErase r s.tcu.discarded }
    (s1.armTcu s1.cck.time s1.cck.valid .byAdvance).enqueue (.calendarErase o) [.erase s.tcu.pendingSector]

/-- A port takes BEGIN_CALENDAR (R64). -/
def serveBeginCalendar (p : PortId) (tag : Byte) (payload : List Byte) (s : State) : State :=
  s.serveWith p 0x31 tag payload (readBegin payload) State.beginCalendar

/-- The session timer where the store action is NONE and the slot LOADING: set to 300 s; else stopped (R65). -/
def Tcu.timerSet (u : Tcu) : Tcu :=
  match u.action, u.slot with
  | .idle, .loading _ => { u with sessionMs := some Config.sessionMs }
  | _, _ => { u with sessionMs := none }

/-- TCU takes a session request: NO_SESSION when none is open, else the timer set again and the request judged (R65, R72). -/
def State.inSession (s : State) (o : Origin) (judge : Calendar → State → State) : State :=
  match s.tcu.slot with
  | .loading c => judge c (s.setTcu s.tcu.timerSet)
  | .empty | .waiting _ => s.reply o .noSession []

/-- The staged calendar replaced, and OK (R66 to R68). -/
def State.stage (s : State) (c : Calendar) (o : Origin) : State :=
  (s.setTcu { s.tcu with slot := .loading c }).reply o .ok []

/-- LOAD_DAY_PROFILE judged (R66). -/
def State.loadDayProfile (f : Nat × List SwitchPoint) (o : Origin) (s : State) : State :=
  s.inSession o fun c t =>
    if f.1 ≤ 7 ∧ 1 ≤ f.2.length ∧ f.2.length ≤ 8 ∧ f.2.all (fun q => q.minute ≤ 1439) then
      t.stage { c with profiles := c.profiles.setIfInBounds f.1 (some f.2) } o
    else t.reply o .badArgument []

/-- A port takes LOAD_DAY_PROFILE (R66). -/
def serveLoadDayProfile (p : PortId) (tag : Byte) (payload : List Byte) (s : State) : State :=
  s.serveWith p 0x32 tag payload (readDayProfile payload) State.loadDayProfile

/-- The week map after some entries, in order (R67). -/
def setWeek (w : Vector (Option Nat) 7) (entries : List (Nat × Nat)) : Vector (Option Nat) 7 :=
  entries.foldl (fun acc e => acc.setIfInBounds e.1 (some e.2)) w

/-- LOAD_WEEK judged (R67). -/
def State.loadWeek (entries : List (Nat × Nat)) (o : Origin) (s : State) : State :=
  s.inSession o fun c t =>
    if 1 ≤ entries.length ∧ entries.length ≤ 7 ∧ entries.all (fun e => e.1 ≤ 6 && e.2 ≤ 7) then
      t.stage { c with week := setWeek c.week entries } o
    else t.reply o .badArgument []

/-- A port takes LOAD_WEEK (R67). -/
def serveLoadWeek (p : PortId) (tag : Byte) (payload : List Byte) (s : State) : State :=
  s.serveWith p 0x33 tag payload (readWeek payload) State.loadWeek

/-- Whether a special day is in range (R68). -/
def SpecialDay.inRange (x : SpecialDay) : Bool :=
  let last :=
    match x.year with
    | some y => monthDays y x.month
    | none => monthDays 2000 x.month
  decide (1 ≤ x.month) && decide (x.month ≤ 12)
    && (match x.year with
        | some y => decide (2000 ≤ y) && decide (y ≤ 2135)
        | none => true)
    && decide (1 ≤ x.day) && decide (x.day ≤ last) && decide (x.profile ≤ 7)

/-- LOAD_SPECIAL_DAY judged (R68). -/
def State.loadSpecialDay (entries : List SpecialDay) (o : Origin) (s : State) : State :=
  s.inSession o fun c t =>
    if 1 ≤ entries.length ∧ entries.length ≤ 4 ∧ entries.all SpecialDay.inRange then
      if c.specials.length + entries.length ≤ 32 then t.stage { c with specials := c.specials ++ entries } o
      else t.reply o .listFull []
    else t.reply o .badArgument []

/-- A port takes LOAD_SPECIAL_DAY (R68). -/
def serveLoadSpecialDay (p : PortId) (tag : Byte) (payload : List Byte) (s : State) : State :=
  s.serveWith p 0x34 tag payload (readSpecialList payload) State.loadSpecialDay

/-- ABORT_CALENDAR judged (R71). A store operation under way for the session is no longer waited for (log 15). -/
def State.abortCalendar (o : Origin) (s : State) : State :=
  s.inSession o fun _ t =>
    (t.setTcu { t.tcu with slot := .empty, sessionMs := none, action := .idle }).reply o .ok []

/-- A port takes ABORT_CALENDAR (R71). -/
def serveAbortCalendar (p : PortId) (tag : Byte) (payload : List Byte) (s : State) : State :=
  s.serveWith p 0x36 tag payload (readEmpty payload) (fun _ => State.abortCalendar)

/-- The session timer reaches 0 (R72); it runs in MAINS alone, the only supply state with a session open and the timer
going (R78). -/
def State.expireSession (s : State) : State :=
  match s.tcu.sessionMs with
  | some _ =>
    if s.onMains then
      (s.setTcu { s.tcu with slot := .empty, sessionMs := none }).report .ulk .sessionEnded true
    else s
  | none => s

/-- SESSION_TIMER_EXPIRY (R72). -/
def execSessionTimerExpiry (s : State) : Host.Outcome State Fault Refusal := .next s.expireSession

/-! ## COMMIT_CALENDAR (R69, R70) -/

/-- The first reason a loaded profile fails checks 2 to 5, in their order (R69). -/
def profileReason (lengths : List Nat) (ps : List SwitchPoint) : Option Reason :=
  if (ps.head?.map fun q => q.minute) ≠ some 0 then some .firstNotMidnight
  else if ¬ (ps.map fun q => q.minute).Pairwise (· < ·) then some .notAscending
  else if ps.any fun q => !(1 ≤ q.band && q.band ≤ 6) then some .badBand
  else if ps.any fun q => lengths.any fun l => q.minute % l != 0 then some .misalignedSwitch
  else none

/-- Checks 2 to 5 over the loaded profiles in index order (R69). -/
def firstBadProfile (lengths : List Nat) : (i : Nat) → List (Option (List SwitchPoint)) → Option (Reason × Nat)
  | _, [] => none
  | i, none :: t => firstBadProfile lengths (i + 1) t
  | i, some ps :: t =>
    match profileReason lengths ps with
    | some r => some (r, i)
    | none => firstBadProfile lengths (i + 1) t

/-- Whether a profile index is loaded. -/
def Calendar.loaded (c : Calendar) (i : Nat) : Bool := ((c.profiles.toList[i]?).join).isSome

/-- Whether two special days have the same date (R69 check 8). -/
def SpecialDay.sameDate (x y : SpecialDay) : Bool := x.month == y.month && x.day == y.day && x.year == y.year

/-- The position of the first special day that repeats the date of an earlier one. -/
def firstDuplicate (earlierOnes : List SpecialDay) : (i : Nat) → List SpecialDay → Option Nat
  | _, [] => none
  | i, x :: t =>
    if earlierOnes.any fun y => y.sameDate x then some i else firstDuplicate (x :: earlierOnes) (i + 1) t

/-- The checks of R69 in order: the first that fails, with its item. -/
def Calendar.validate (c : Calendar) (lengths : List Nat) : Option (Reason × Option Nat) :=
  if ¬ (1 ≤ c.defaultBand ∧ c.defaultBand ≤ 6) then some (.defaultBandBad, none)
  else match firstBadProfile lengths 0 c.profiles.toList with
    | some (r, i) => some (r, some i)
    | none =>
      match c.week.toList.findIdx? fun e => e.isNone with
      | some wd => some (.weekIncomplete, some wd)
      | none =>
        match c.week.toList.findIdx? fun e => !c.loaded (e.getD 8) with
        | some wd => some (.profileMissing, some wd)
        | none =>
          match c.specials.findIdx? fun x => !c.loaded x.profile with
          | some k => some (.profileMissing, some (0x80 + k))
          | none =>
            match firstDuplicate [] 0 c.specials with
            | some k => some (.duplicateDate, some k)
            | none => none

/-- The interval lengths of check 5: current, pending, under write (R69). -/
def Ipu.lengths (u : Ipu) : List Nat := u.length :: (u.pendingLength.toList ++ u.underWrite.toList)

/-- TCU writes the staged calendar (R70, R76). One written after a HOLDUP return while an earlier discard erase or write is
still at DSC replaces the store action, and the earlier outcome is dropped, R64's undo with it (DESIGN CHOICE, log 15). -/
def State.writeCalendar (s : State) (c : Calendar) (o : Origin) : State :=
  let seq := s.tcu.nextSeq
  let sector := s.tcu.pendingSector
  (s.setTcu { s.tcu with action := .commitWrite seq c, sessionMs := none, nextSeq := seq + 1 }).enqueue
    (.calendarWrite seq o)
    [.erase sector, .program (.calendarBody sector 0), .program (.calendarBody sector 1),
      .program (.calendarMarker sector ⟨c, seq⟩)]

/-- COMMIT_CALENDAR judged (R69, R70). -/
def State.commitCalendar (o : Origin) (s : State) : State :=
  s.inSession o fun c t =>
    match c.validate t.ipu.lengths with
    | some (r, item) => t.reply o .validationFailed (reasonBytes r item)
    | none => t.writeCalendar c o

/-- A port takes COMMIT_CALENDAR (R69). -/
def serveCommitCalendar (p : PortId) (tag : Byte) (payload : List Byte) (s : State) : State :=
  s.serveWith p 0x35 tag payload (readEmpty payload) (fun _ => State.commitCalendar)

/-! ## Outcomes of the calendar-region writes (R64, R70) -/

/-- The discard erase completed: the session opens (R64). -/
def State.discardErased (s : State) (o : Origin) : State :=
  match s.tcu.action with
  | .discardErase _ _ =>
    let u : Tcu := { s.tcu with action := .idle }
    (s.setTcu u.timerSet).reply o .ok []
  | .idle | .commitWrite _ _ => s

/-- The discard erase refused: the withdrawal undone (R64). -/
def State.discardRefused (s : State) (o : Origin) : State :=
  match s.tcu.action with
  | .discardErase r before =>
    let u : Tcu := { s.tcu with slot := .waiting r, discarded := before, action := .idle, sessionMs := none }
    ((s.setTcu u).renewBoundary).reply o .storeFault []
  | .idle | .commitWrite _ _ => s

/-- CALENDAR_DISCARD_ERASE_OUTCOME (R64). -/
def execCalendarDiscardEraseOutcome (s : State) : Host.Outcome State Fault Refusal :=
  .next
    (match s.takeStore .tcu with
    | some (⟨.calendarErase o, .completed, _, _⟩, t) => t.discardErased o
    | some (⟨.calendarErase o, .refused, _, _⟩, t) => t.discardRefused o
    | _ => s)

/-- Whether TCU waits for the write of a sequence (R70, log 15). -/
def StoreAction.waitsFor (a : StoreAction) (seq : Nat) : Bool :=
  match a with
  | .commitWrite n _ => n == seq
  | .idle | .discardErase _ _ => false

/-- The write completed: the calendar written, which passed R69, waits (R57, R70). What a session still open after a return
from HOLDUP staged meanwhile is dropped with the session (R78, log 15). A boundary beyond 32 bits is held as the number, and
the answer carries its low 4 bytes (R73, DESIGN CHOICE, log 30). -/
def State.calendarWritten (s : State) (seq : Nat) (o : Origin) : State :=
  match s.tcu.slot, s.tcu.action with
  | .loading _, .commitWrite n c =>
    if n = seq then
      let s1 := (s.setTcu { s.tcu with slot := .waiting ⟨c, seq⟩, action := .idle, sessionMs := none }).renewBoundary
      s1.reply o .ok (be 4 seq ++ optBe 4 (s1.tcu.boundary))
    else s
  | _, _ => s

/-- The write refused: the session goes on (R70). -/
def State.calendarRefused (s : State) (seq : Nat) (o : Origin) : State :=
  if s.tcu.action.waitsFor seq then
    let u : Tcu := { s.tcu with action := .idle }
    (s.setTcu u.timerSet).reply o .storeFault []
  else s

/-- CALENDAR_COMMIT_WRITE_OUTCOME (R70). -/
def execCalendarCommitWriteOutcome (s : State) : Host.Outcome State Fault Refusal :=
  .next
    (match s.takeStore .tcu with
    | some (⟨.calendarWrite seq o, .completed, _, _⟩, t) => t.calendarWritten seq o
    | some (⟨.calendarWrite seq o, .refused, _, _⟩, t) => t.calendarRefused seq o
    | _ => s)

/-! ## READ_CALENDAR (R75) -/

/-- The calendar a role names (R75, R208). -/
def Tcu.inRole (u : Tcu) (role : Nat) : Option CalendarRecord :=
  match role, u.slot with
  | 0, _ => u.active
  | 1, .waiting r => some r
  | _, _ => none

/-- The switch points of a profile, 3 B each (R219). -/
def pointBytes (ps : List SwitchPoint) : List Byte := ps.flatMap fun q => be 2 q.minute ++ be 1 q.band

/-- A special day, 5 B (R219). -/
def SpecialDay.bytes (x : SpecialDay) : List Byte :=
  be 1 x.month ++ be 1 x.day ++ be 2 (x.year.getD 0) ++ be 1 x.profile

/-- One bit for each loaded profile (R219). -/
def Calendar.loadedBits (c : Calendar) : Nat := (List.range 8).foldl (fun acc i => acc + bitAt i (c.loaded i)) 0

/-- The HEADER part (R75, R219). -/
def CalendarRecord.header (r : CalendarRecord) : List Byte :=
  be 2 r.calendar.id ++ be 1 r.calendar.defaultBand ++ be 4 r.calendar.activation ++ be 4 r.seq
    ++ (r.calendar.week.toList.flatMap fun e => be 1 (e.getD 0)) ++ be 1 r.calendar.loadedBits
    ++ be 1 r.calendar.specials.length

/-- A part by its code: HEADER 0, PROFILE n as 1 + n, SPECIAL n as 9 + n (R75, R208, R219). -/
def CalendarRecord.part (r : CalendarRecord) (k : Nat) : Option (List Byte) :=
  if k = 0 then some r.header
  else if k ≤ 8 then
    match (r.calendar.profiles.toList[k - 1]?).join with
    | some ps => some (be 1 1 ++ be 1 ps.length ++ pointBytes ps)
    | none => some (be 1 0 ++ be 1 0)
  else if k ≤ 12 then
    let xs := (r.calendar.specials.drop (8 * (k - 9))).take 8
    some (be 1 xs.length ++ xs.flatMap SpecialDay.bytes)
  else none

/-- TCU answers READ_CALENDAR (R75). -/
def State.answerCalendar (f : Nat × Nat) (o : Origin) (s : State) : State :=
  match s.tcu.inRole f.1 with
  | none => s.reply o .badArgument []
  | some r =>
    match r.part f.2 with
    | some bytes => s.reply o .ok bytes
    | none => s.reply o .badArgument []

/-- A port takes READ_CALENDAR (R75). -/
def serveReadCalendar (p : PortId) (tag : Byte) (payload : List Byte) (s : State) : State :=
  s.serveWith p 0x30 tag payload (readRolePart payload) State.answerCalendar

end Sys2Proof.Machine
end

