-- ==== Sys2Proof/Machine/Profile.lean ====
section
/-! DEFINITION. The Interval Profile Unit (chapter 5): the open interval, closing, the interval length, the append queue and
the ring, the readers. -/

namespace Sys2Proof.Machine

/-! ## The append queue and the ring (R93 to R96) -/

/-- The readable limit (R93). -/
def Ipu.limit (u : Ipu) : Nat :=
  match u.queue with
  | [] => u.nextNumber
  | r :: _ => r.number

/-- The oldest retained number; the readable limit while the ring is empty (R97). -/
def Ipu.oldest (u : Ipu) : Nat :=
  match u.ring with
  | [] => u.limit
  | e :: _ => e.number

/-- The sector of a record slot (R152). -/
def sectorOfSlot (pos : Nat) : Nat := 15 + pos / 128

/-- IPU hands the head of the queue to DSC when nothing is handed and no erase-ahead is outstanding (R94). Queued records
are appended when units resume (R105). -/
def State.tryHand (s : State) : State :=
  match s.ipu.queue with
  | [] => s
  | r :: _ =>
    if !s.ipu.handed && s.ipu.erase == .idle && s.inService .ipu then
      (s.setIpu { s.ipu with handed := true }).enqueue .append [.program (.intervalRecord s.ipu.writePos r)]
    else s

/-- IPU requests the erase-ahead of the sector at the write position (R95, R105). -/
def State.askProfileErase (s : State) : State :=
  let sector := sectorOfSlot s.ipu.writePos
  (s.setIpu { s.ipu with erase := .requested }).enqueue (.profileErase sector) [.erase sector]

/-- The write position advances; past a sector's last slot the erase-ahead is requested, else the next record is handed
(R94, R95). -/
def State.advanceWrite (s : State) : State :=
  let s1 := s.setIpu { s.ipu with writePos := (s.ipu.writePos + 1) % Config.profileSlots }
  if s1.ipu.writePos % 128 = 0 then s1.askProfileErase else s1.tryHand

/-- A reader after one completed append: the count, and whether PROFILE_READY is raised (R101). -/
def Reader.appended (r : Reader) : Reader × Bool :=
  if r.threshold ≤ r.ready + 1 then ({ r with ready := 0 }, true) else ({ r with ready := r.ready + 1 }, false)

/-- Both readers count a completed append (R101). -/
def State.countAppend (s : State) : State :=
  let u := s.ipu.utility.appended
  let v := s.ipu.site.appended
  let s1 := s.setIpu { s.ipu with utility := u.1, site := v.1 }
  let s2 := if u.2 then s1.report .ulk .profileReady true else s1
  if v.2 then s2.report .slk .profileReady true else s2

/-- The head record joins the ring (R94), and a routine image is wanted (R163). -/
def State.appendDone (s : State) : State :=
  match s.ipu.queue with
  | [] => s
  | r :: rest =>
    let s1 := s.setIpu
      { s.ipu with queue := rest, handed := false, ring := s.ipu.ring ++ [⟨r.number, s.ipu.writePos⟩] }
    s1.countAppend.advanceWrite.wantImage

/-- The head record is dropped (R94). A cursor at this record's number stays there, below the oldest retained number, until
one of R97's movers moves it: both where R96 set it so, and where the ring is empty and the drop moves the readable limit,
which is then the oldest retained number (DESIGN CHOICE, log 32). -/
def State.appendRefused (s : State) : State :=
  (s.setIpu { s.ipu with queue := s.ipu.queue.drop 1, handed := false }).advanceWrite

/-- PROFILE_APPEND_SETTLED (R94). -/
def execProfileAppendSettled (s : State) : Host.Outcome State Fault Refusal :=
  .next
    (match s.takeStore .ipu with
    | some (⟨.append, .completed, _, _⟩, t) => t.appendDone
    | some (⟨.append, .refused, _, _⟩, t) => t.appendRefused
    | _ => s)

/-- A reader after the removal of some records, h their highest number (R96). The cursor becomes h + 1, below the oldest
record retained where the records just above h were dropped (DESIGN CHOICE, log 32). -/
def Reader.removed (r : Reader) (gone : List RingEntry) (h : Nat) : Reader :=
  if r.cursor ≤ h then
    { r with
      skip := satAdd 65535 r.skip (gone.filter fun e => r.cursor ≤ e.number).length
      cursor := h + 1 }
  else r

/-- IPU after the grant of the erase of a sector (R95, R96). -/
def Ipu.eraseGranted (u : Ipu) (sector : Nat) : Ipu :=
  let gone := u.ring.filter fun e => sectorOfSlot e.pos == sector
  let kept := u.ring.filter fun e => sectorOfSlot e.pos != sector
  match gone with
  | [] => { u with erase := .granted }
  | _ :: _ =>
    let h := gone.foldl (fun acc e => max acc e.number) 0
    { u with erase := .granted, ring := kept, utility := u.utility.removed gone h, site := u.site.removed gone h }

/-- PROFILE_ERASE_GRANT (R96). -/
def execProfileEraseGrant (s : State) : Host.Outcome State Fault Refusal :=
  .next
    (match s.takeStore .ipu with
    | some (⟨.profileErase sector, .granted, _, _⟩, t) => t.setIpu (t.ipu.eraseGranted sector)
    | _ => s)

/-- PROFILE_ERASE_OUTCOME (R95): completed, or refused, which leaves the erase state as it stands: REQUESTED, or GRANTED
where the hold-up commit suspended the erase and FAULT then refused it (DESIGN CHOICE, log 31). -/
def execProfileEraseOutcome (s : State) : Host.Outcome State Fault Refusal :=
  .next
    (match s.takeStore .ipu with
    | some (⟨.profileErase _, .completed, _, _⟩, t) => (t.setIpu { t.ipu with erase := .idle }).tryHand
    | some (⟨.profileErase _, .refused, _, _⟩, t) => t
    | _ => s)

/-! ## Opening and closing an interval (R81, R86 to R89, R92) -/

/-- The interval IPU opens at a time under a generation and a band (R81). DESIGN CHOICE (log 31): an opening in the very
second of the supply-loss mark carries SUPPLY_LOSS too, since its slot overlapped the HOLDUP (R103, against R81's "earlier"). -/
def Ipu.opened (u : Ipu) (t gen band : Nat) : OpenInterval :=
  let start := slotStartOf u.length t
  { slotStart := start, slotEnd := start + u.length * 60, start := t, gen := gen, band := band, imp := 0, exp := 0,
    generation := none, missed := 0
    flags :=
      { Quality.none with
        timeInvalid := !u.valid
        curtailed := !u.interlockClosed
        calendarChanged := u.calendarHold
        supplyLoss :=
          match u.supplyMark with
          | some m => decide (t ≤ m)
          | none => false } }

/-- IPU with an interval it has just opened (R81). -/
def State.placeInterval (s : State) (iv : OpenInterval) : State :=
  s.setIpu { s.ipu with interval := some iv, calendarHold := false, supplyMark := none }

/-- IPU opens an interval and arms its due slot with the slot end (R81). -/
def State.openInterval (s : State) (t gen : Nat) (how : Reached) : State :=
  let iv := s.ipu.opened t gen s.tcu.band
  (s.placeInterval iv).arm .ipu (some iv.slotEnd) how

/-- IPU opens an interval and arms its slot while it takes a message of CCK (R52, R81). -/
def State.openInTurn (s : State) (t gen : Nat) (how : Reached) : State :=
  let iv := s.ipu.opened t gen s.tcu.band
  (s.placeInterval iv).armInTurn .ipu (some iv.slotEnd) how

/-- The record built from an interval with a close time (R87). A close time before the effective start gives the duration 0
(DESIGN CHOICE, log 32): the close of a saved interval can have one (R106), and so can an early close whose old time a small
TRIM, judged while a SET notice still waited for IPU, took back before the start. -/
def Ipu.record (u : Ipu) (iv : OpenInterval) (c : Nat) : IntervalRecord :=
  { number := u.nextNumber, start := iv.start, gen := iv.gen, band := iv.band, duration := c - iv.start, imp := iv.imp,
    exp := iv.exp, generation := iv.generation, missed := if iv.missed = 0 then none else some iv.missed
    flags :=
      { iv.flags with
        partialInterval := iv.flags.partialInterval || decide (iv.slotStart < iv.start) || decide (c < iv.slotEnd)
        measurementGap := iv.flags.measurementGap || iv.missed != 0
        genAbsent := iv.flags.genAbsent || iv.generation.isNone
        registerRollback := iv.flags.registerRollback || u.owedRollback
        resetInput := iv.flags.resetInput || u.owedReset } }

/-- IPU builds, numbers and queues a record; with the last number given it builds none, and a full queue drops it
(R93, R94). -/
def Ipu.build (u : Ipu) (iv : OpenInterval) (c : Nat) : Ipu :=
  if u.numbersSpent then u
  else
    { u with
      queue := if u.queue.length < 2 then u.queue ++ [u.record iv c] else u.queue
      nextNumber := if u.nextNumber = Config.maxSequence then u.nextNumber else u.nextNumber + 1
      numbersSpent := u.nextNumber == Config.maxSequence
      owedRollback := false
      owedReset := false }

/-- An energy of an interval as a demand in W under a nominal length in minutes (R88). -/
def demandOf (mWh minutes : Nat) : Nat := mWh * 36 / (10 * (minutes * 60))

/-- The demand report of a close (R88). -/
def OpenInterval.demand (iv : OpenInterval) (minutes c : Nat) : DemandReport :=
  ⟨iv.band, demandOf iv.imp minutes, demandOf iv.exp minutes, c⟩

/-- Steps 1 to 4 of R86 with close time c. -/
def State.closeInterval (s : State) (iv : OpenInterval) (c : Nat) : State :=
  (s.setIpu (s.ipu.build iv c)).setMail
    { s.mail with
      nauCloses := s.mail.nauCloses ++ [.close, .demand (iv.demand s.ipu.length c)]
      mfpCloses := s.mail.mfpCloses + 1 }

/-- A pending length takes effect, and IPU reports it to TCU (R92). -/
def State.takeLength (s : State) : State :=
  match s.ipu.pendingLength with
  | some p =>
    (s.setIpu { s.ipu with length := p, pendingLength := none }).setMail { s.mail with tcuLengths := s.mail.tcuLengths + 1 }
  | none => s

/-- A pending length takes effect at a close at a multiple of it (R86 step 5, R92). -/
def State.takeLengthAt (s : State) (e : Nat) : State :=
  match s.ipu.pendingLength with
  | some p => if e % (p * 60) = 0 then s.takeLength else s
  | none => s

/-- IPU takes its due event at the slot end (R86). -/
def State.ipuTakeDue (s : State) (d : Due) : State :=
  match s.ipu.interval with
  | some iv =>
    let e := iv.slotEnd
    (((s.closeInterval iv e).takeLengthAt e).openInTurn e d.gen .byAdvance).tryHand
  | none => s

/-- IPU_DUE_EVENT (R86). -/
def execIpuDueEvent (s : State) : Host.Outcome State Fault Refusal :=
  .next
    (match s.takeDue .ipu with
    | some (d, t) => t.ipuTakeDue d
    | none => s)

/-- The flag set with CLOCK_ADJUSTED. -/
def Quality.adjusted (q : Quality) : Quality := { q with clockAdjusted := true }

/-- The early close and the new interval of a SET, ADJUST or WRAP (R89). -/
def State.closeEarly (s : State) (iv : OpenInterval) (n : Notice) : State :=
  let s1 := (s.closeInterval (iv.flag Quality.adjusted) n.oldTime).takeLength
  ((s1.setIpu { s1.ipu with valid := n.newValid }).openInTurn n.newTime n.newGen .byChange).tryHand

/-- IPU takes a change notice (R89); the due test follows it (R52). -/
def State.ipuTakeNotice (s : State) (n : Notice) : State :=
  match n.kind with
  | .trim => (s.flagInterval Quality.adjusted).testInTurn .ipu .byChange
  | .set | .adjust | .wrap =>
    match s.ipu.interval with
    | some iv => s.closeEarly iv n
    | none => s

/-- IPU_CHANGE_NOTICE (R89). -/
def execIpuChangeNotice (s : State) : Host.Outcome State Fault Refusal :=
  .next
    (match s.takeNotice .ipu with
    | some (n, t) => t.ipuTakeNotice n
    | none => s)

/-! ## What joins the open interval (R82 to R85) -/

/-- The interval after a split increment (R82). -/
def OpenInterval.add (iv : OpenInterval) (sp : Split) : OpenInterval :=
  { iv with
    imp := satAdd Config.maxIntervalEnergy iv.imp sp.imp
    exp := satAdd Config.maxIntervalEnergy iv.exp sp.exp
    generation :=
      match sp.gen with
      | some g => some (satAdd Config.maxIntervalGeneration (iv.generation.getD 0) g)
      | none => iv.generation
    missed := satAdd 255 iv.missed sp.missed
    flags := { iv.flags with converterFault := iv.flags.converterFault || sp.fault } }

/-- The state with the open interval changed. -/
def State.mapInterval (s : State) (f : OpenInterval → OpenInterval) : State :=
  s.setIpu { s.ipu with interval := s.ipu.interval.map f }

/-- IPU_SPLIT_INCREMENT (R82): the split increment at the head of IPU's energy messages (log 6); none is taken in HOLDUP
(R103). -/
def execIpuSplitIncrement (s : State) : Host.Outcome State Fault Refusal :=
  .next
    (if s.takesDues .ipu then
      match s.mail.ipuEnergy with
      | .split sp :: rest => (s.setMail { s.mail with ipuEnergy := rest }).mapInterval fun iv => iv.add sp
      | _ => s
    else s)

/-- The energy message that reports one missed epoch. -/
def EnergyMail.isMissed : EnergyMail → Bool
  | .missed => true
  | .split _ => false

/-- IPU_MISSED_EPOCH_REPORT (R82): the oldest report of a missed epoch (log 6). -/
def execIpuMissedEpochReport (s : State) : Host.Outcome State Fault Refusal :=
  .next
    (if s.inService .ipu then
      match takeFirst EnergyMail.isMissed s.mail.ipuEnergy with
      | some (_, rest) =>
        (s.setMail { s.mail with ipuEnergy := rest }).mapInterval fun iv => { iv with missed := satAdd 255 iv.missed 1 }
      | none => s
    else s)

/-- The interval's band after a band notice (R84). -/
def OpenInterval.takeBand (iv : OpenInterval) (n : BandNotice) : OpenInterval :=
  if iv.start ≤ n.time ∧ n.time < iv.slotEnd then { iv with band := n.band } else iv

/-- IPU_BAND_NOTICE (R84). -/
def execIpuBandNotice (s : State) : Host.Outcome State Fault Refusal :=
  .next
    (match s.mail.ipuBands with
    | n :: rest =>
      if s.inService .ipu then (s.setMail { s.mail with ipuBands := rest }).mapInterval fun iv => iv.takeBand n else s
    | [] => s)

/-- IPU takes an activation notice (R85). -/
def State.takeActivation (s : State) (b : Nat) : State :=
  match s.ipu.interval with
  | some iv =>
    if b = iv.slotEnd then s.setIpu { s.ipu with calendarHold := true }
    else s.flagInterval fun q => { q with calendarChanged := true }
  | none => s

/-- IPU_ACTIVATION_NOTICE (R85). -/
def execIpuActivationNotice (s : State) : Host.Outcome State Fault Refusal :=
  .next
    (match s.mail.ipuActivations with
    | n :: rest =>
      if s.inService .ipu then (s.setMail { s.mail with ipuActivations := rest }).takeActivation n.boundary else s
    | [] => s)

/-- The flag set with CURTAILED. -/
def Quality.curtail (q : Quality) : Quality := { q with curtailed := true }

/-- IPU takes an interlock report (R83). -/
def State.takeInterlock (s : State) (closed : Bool) : State :=
  let s1 := s.setIpu { s.ipu with interlockClosed := closed }
  if closed then s1 else s1.flagInterval Quality.curtail

/-- IPU_INTERLOCK_REPORT (R83). -/
def execIpuInterlockReport (s : State) : Host.Outcome State Fault Refusal :=
  .next
    (match s.mail.ipuInterlock with
    | closed :: rest =>
      if s.inService .ipu then (s.setMail { s.mail with ipuInterlock := rest }).takeInterlock closed else s
    | [] => s)

/-- IPU_TAMPER_REPORT (R83): held until IPU's own resumption (R188 step 3). -/
def execIpuTamperReport (s : State) : Host.Outcome State Fault Refusal :=
  .next
    (if s.mail.ipuTamper ≠ 0 ∧ s.inService .ipu then
      (s.setMail { s.mail with ipuTamper := s.mail.ipuTamper - 1 }).flagInterval fun q => { q with tamper := true }
    else s)

/-! ## The interval length (R90, R91) -/

/-- The switch-point minutes of a calendar (R60). -/
def Calendar.minutes (c : Calendar) : List Nat :=
  c.profiles.toList.flatMap fun e => (e.getD []).map fun q => q.minute

/-- The switch-point minutes of the active and the waiting calendar (R60). -/
def Tcu.switchMinutes (u : Tcu) : List Nat :=
  (match u.active with
    | some r => r.calendar.minutes
    | none => [])
  ++ (match u.slot with
    | .waiting r => r.calendar.minutes
    | .empty | .loading _ => [])

/-- Whether some switch point is no multiple of a length (R90 step 2). -/
def Tcu.misaligned (u : Tcu) (minutes : Nat) : Bool := u.switchMinutes.any fun m => m % minutes != 0

/-- The five lengths (R79). -/
def allowedLength (v : Nat) : Bool := v == 5 || v == 10 || v == 15 || v == 30 || v == 60

/-- IPU judges a length write (R90, R91). -/
def State.writeLength (v : Nat) (o : Origin) (s : State) : State :=
  if s.ipu.underWrite.isSome then s.reply o .busy []
  else if !allowedLength v then s.reply o .badArgument []
  else if s.tcu.misaligned v then s.reply o .validationFailed (reasonBytes .misalignedSwitch none)
  else (s.setIpu { s.ipu with underWrite := some v }).enqueue (.lengthWrite v s.dsc.held.length o) []

/-- A port takes WRITE_CONFIG_INTERVAL_LENGTH (R90, R197): the payload is item code 3 and the value. -/
def serveWriteConfigIntervalLength (p : PortId) (tag : Byte) (value : List Byte) (s : State) : State :=
  s.serve p 0x11 tag (3 :: value) (value.length == 1) (fun o t => t.writeLength (ofBe value) o)

/-- IPU takes a completed length write: the alignment again, then the pending length or the write that puts the old length
back (R90). -/
def State.lengthWritten (s : State) (v before : Nat) (o : Origin) : State :=
  if s.tcu.misaligned v then s.enqueue (.lengthRestore before o) []
  else
    (s.setIpu { s.ipu with underWrite := none, pendingLength := if v = s.ipu.length then none else some v }).reply o .ok []

/-- INTERVAL_LENGTH_WRITE_COMPLETION (R90): completed, or refused with STORE_FAULT. -/
def execIntervalLengthWriteCompletion (s : State) : Host.Outcome State Fault Refusal :=
  .next
    (match s.takeStore .ipu with
    | some (⟨.lengthWrite v before o, .completed, _, _⟩, t) => t.lengthWritten v before o
    | some (⟨.lengthWrite _ _ o, .refused, _, _⟩, t) =>
      (t.setIpu { t.ipu with underWrite := none }).reply o .storeFault []
    | _ => s)

/-- INTERVAL_LENGTH_RESTORE_COMPLETION (R90): completed, or refused with STORE_FAULT. -/
def execIntervalLengthRestoreCompletion (s : State) : Host.Outcome State Fault Refusal :=
  .next
    (match s.takeStore .ipu with
    | some (⟨.lengthRestore _ o, .completed, _, _⟩, t) =>
      (t.setIpu { t.ipu with underWrite := none }).reply o .validationFailed (reasonBytes .misalignedSwitch none)
    | some (⟨.lengthRestore _ o, .refused, _, _⟩, t) =>
      (t.setIpu { t.ipu with underWrite := none }).reply o .storeFault []
    | _ => s)

/-! ## The readers (R97 to R102) -/

/-- The reader of a port: the utility reader of ULK, the site reader of SLK (R97). -/
def Ipu.reader (u : Ipu) (p : PortId) : Reader :=
  match p with
  | .ulk | .opt => u.utility
  | .slk => u.site

/-- Up to n retained records from a number on and below the readable limit, in append order (R98, R102). -/
def Ipu.select (u : Ipu) (first n : Nat) : List RingEntry :=
  (u.ring.filter fun e => decide (first ≤ e.number) && decide (e.number < u.limit)).take n

/-- READ operations over slots, one for each sector they lie in (R153). -/
def readOps (es : List RingEntry) : List ArrayOp :=
  es.foldr
    (fun e acc =>
      match acc with
      | .readRecords (p :: ps) :: t =>
        if sectorOfSlot e.pos = sectorOfSlot p then .readRecords (e.pos :: p :: ps) :: t
        else .readRecords [e.pos] :: acc
      | _ => .readRecords [e.pos] :: acc)
    []

/-- The answer of a profile read: its head, then of the records read those selected and still in the ring (R98, R102,
R219). A slot erased and programmed again before its read gives a record that was not selected, which is left out. -/
def Ipu.readAnswer (u : Ipu) (fromCursor : Bool) (p : PortId) (selected : List Nat) (records : List IntervalRecord) :
    List Byte :=
  let kept := records.filter fun r => selected.contains r.number && u.ring.any fun e => e.number == r.number
  let r := u.reader p
  (if fromCursor then be 4 r.cursor ++ be 2 r.skip ++ be 4 u.limit else be 4 u.oldest ++ be 4 u.limit)
    ++ be 1 kept.length ++ kept.flatMap IntervalRecord.bytes

/-- IPU starts a profile read; an empty selection is answered at once (R98, R102, log 18). -/
def State.readRing (s : State) (fromCursor : Bool) (first n : Nat) (o : Origin) : State :=
  if 1 ≤ n ∧ n ≤ 8 then
    match s.ipu.select first n with
    | [] => s.reply o .ok (s.ipu.readAnswer fromCursor o.port [] [])
    | e :: es => s.enqueue (.profileRead fromCursor ((e :: es).map fun x => x.number) o) (readOps (e :: es))
  else s.reply o .badArgument []

/-- A port takes READ_PROFILE (R98). -/
def serveReadProfile (p : PortId) (tag : Byte) (payload : List Byte) (s : State) : State :=
  s.serveWith p 0x40 tag payload (readNumber 1 payload)
    (fun n o t => t.readRing true (t.ipu.reader o.port).cursor n o)

/-- A port takes READ_PROFILE_AT (R102). -/
def serveReadProfileAt (p : PortId) (tag : Byte) (payload : List Byte) (s : State) : State :=
  s.serveWith p 0x42 tag payload (readAt payload) (fun f o t => t.readRing false f.1 f.2 o)

/-- PROFILE_READ_COMPLETION (R98, R102). -/
def execProfileReadCompletion (s : State) : Host.Outcome State Fault Refusal :=
  .next
    (match s.takeStore .ipu with
    | some (⟨.profileRead fromCursor selected o, .completed, records, _⟩, t) =>
      t.reply o .ok (t.ipu.readAnswer fromCursor o.port selected records)
    | _ => s)

/-- A reader after an acknowledgement below the readable limit (R99). -/
def Reader.acknowledge (r : Reader) (last : Nat) : Reader :=
  if last < r.cursor then r else { r with cursor := last + 1, skip := 0 }

/-- IPU with the reader of a port replaced. -/
def Ipu.setReader (u : Ipu) (p : PortId) (r : Reader) : Ipu :=
  match p with
  | .ulk | .opt => { u with utility := r }
  | .slk => { u with site := r }

/-- IPU judges an acknowledgement: an old one is OK, one at or above the readable limit is refused (R99). -/
def State.acknowledge (last : Nat) (o : Origin) (s : State) : State :=
  let r := s.ipu.reader o.port
  if r.cursor ≤ last ∧ s.ipu.limit ≤ last then s.reply o .badArgument []
  else (s.setIpu (s.ipu.setReader o.port (r.acknowledge last))).reply o .ok []

/-- A port takes ACK_PROFILE (R99). -/
def serveAckProfile (p : PortId) (tag : Byte) (payload : List Byte) (s : State) : State :=
  s.serveWith p 0x41 tag payload (readNumber 4 payload) State.acknowledge

/-! ## Thresholds (R101) -/

/-- A configuration write of a value in a range; BAD_ARGUMENT outside it (R101, R117, R134). -/
def State.writeRanged (s : State) (lo hi v : Nat) (w : ConfigWrite) (o : Origin) : State :=
  if lo ≤ v ∧ v ≤ hi then s.enqueue (.config w o) [] else s.reply o .badArgument []

/-- A port takes WRITE_CONFIG_UTILITY_THRESHOLD (R101, R197): the payload is item code 10 and the value. -/
def serveWriteConfigUtilityThreshold (p : PortId) (tag : Byte) (value : List Byte) (s : State) : State :=
  s.serve p 0x11 tag (10 :: value) (value.length == 2)
    (fun o t => t.writeRanged 1 4096 (ofBe value) (.utilityThreshold (ofBe value)) o)

/-- A port takes WRITE_CONFIG_SITE_THRESHOLD (R101, R197): the payload is item code 11 and the value. -/
def serveWriteConfigSiteThreshold (p : PortId) (tag : Byte) (value : List Byte) (s : State) : State :=
  s.serve p 0x11 tag (11 :: value) (value.length == 2)
    (fun o t => t.writeRanged 1 4096 (ofBe value) (.siteThreshold (ofBe value)) o)

/-- THRESHOLD_WRITE_COMPLETION (R101): completed, or refused with STORE_FAULT. -/
def execThresholdWriteCompletion (s : State) : Host.Outcome State Fault Refusal :=
  .next
    (match s.takeStore .ipu with
    | some (⟨.config (.utilityThreshold v) o, .completed, _, _⟩, t) =>
      (t.setIpu { t.ipu with utility := { t.ipu.utility with threshold := v } }).reply o .ok []
    | some (⟨.config (.siteThreshold v) o, .completed, _, _⟩, t) =>
      (t.setIpu { t.ipu with site := { t.ipu.site with threshold := v } }).reply o .ok []
    | some (⟨.config (.utilityThreshold _) o, .refused, _, _⟩, t)
    | some (⟨.config (.siteThreshold _) o, .refused, _, _⟩, t) => t.reply o .storeFault []
    | _ => s)

/-! ## Supply (R103, R106) -/

/-- The flag set with SUPPLY_LOSS. -/
def Quality.supplyLost (q : Quality) : Quality := { q with supplyLoss := true }

/-- IPU at the return to MAINS without a restore (R103). -/
def State.ipuReturned (s : State) : State :=
  (s.flagInterval Quality.supplyLost).setIpu
    { (s.flagInterval Quality.supplyLost).ipu with supplyMark := some s.cck.time }

/-- Whether the clock is inside a saved interval (R106). -/
def OpenInterval.holds (iv : OpenInterval) (gen t : Nat) : Bool :=
  iv.gen == gen && decide (iv.start ≤ t) && decide (t < iv.slotEnd)

/-- The saved interval taken up again: resumed, or closed at the image's time and a new one opened, which carries no
SUPPLY_LOSS whatever the image's supply-loss mark (R106). The close time is the image's also where CCK gave its part at
another moment than IPU (DESIGN CHOICE, log 32). A resumed interval runs on under the interlock view set here, so that a view
NOT_CLOSED adds CURTAILED to it (R83); the one closed at the image's time ran under the earlier view alone and gets none
(DESIGN CHOICE, log 32). A resumed interval keeps its saved band until a band notice of TCU (R84), and does not take the band
read from TCU here, which R106 leaves open (DESIGN CHOICE, log 16). -/
def State.resumeSaved (s : State) (iv : OpenInterval) (imageTime : Nat) : State :=
  let iv := if s.ssv.kind = .supply then iv.flag Quality.supplyLost else iv
  if iv.holds s.cck.gen s.cck.time then
    let resumed := if s.ipu.interlockClosed then iv else iv.flag Quality.curtail
    (s.setIpu { s.ipu with interval := some resumed }).arm .ipu (some iv.slotEnd) .byAdvance
  else
    let closing := iv.flag fun q => { q with partialInterval := true }
    let s1 := (s.closeInterval closing imageTime).takeLength
    (s1.setIpu { s1.ipu with supplyMark := none }).openInterval s.cck.time s.cck.gen .byAdvance

/-- IPU takes up its interval at the resumption of units, with the interlock view read from ECU (R106). An image whose part of
IPU holds no interval is one without a saved interval (DESIGN CHOICE, log 32). -/
def State.ipuResume (s : State) : State :=
  let s1 := s.setIpu
    { s.ipu with valid := s.cck.valid, interlockClosed := s.ecu.interlock == .closed, savedAt := none }
  let s2 :=
    match s.ipu.interval, s.ipu.savedAt with
    | some iv, some t => s1.resumeSaved iv t
    | _, _ => s1.openInterval s.cck.time s.cck.gen .byAdvance
  if s2.ipu.erase = .requested then s2.askProfileErase else s2.tryHand

/-- IPU_RESUMPTION (R106). -/
def execIpuResumption (s : State) : Host.Outcome State Fault Refusal :=
  .next
    (if s.ssv.resumed && s.ssv.owed.ipu then
      (s.setSsv { s.ssv with owed := { s.ssv.owed with ipu := false } }).ipuResume
    else s)

end Sys2Proof.Machine
end

