-- ==== Sys2Proof/Machine/Freeze.lean ====
section
/-! DEFINITION. The Billing Freeze Unit (chapter 6): taking a freeze, its write and erase-ahead, the billing day, the frozen
history. -/

namespace Sys2Proof.Machine

/-! ## Taking a freeze (R110) -/

/-- The sector of a frozen-set slot 0..31 (R118). -/
def sectorOfFrozen (pos : Nat) : Nat := 5 + pos / 16

/-- BFU asks DSC to program the captured set, unless an erase-ahead is outstanding (R110 step 6). -/
def State.handFreeze (s : State) : State :=
  match s.bfu.captured with
  | some f =>
    if !s.bfu.handed && s.bfu.erase == .idle then
      (s.setBfu { s.bfu with handed := true }).enqueue .frozenWrite
        [.program (.frozenBody s.bfu.writePos), .program (.frozenMarker s.bfu.writePos f)]
    else s
  | none => s

/-- The set a freeze captures now (R17, R109, R110). -/
def State.capture (s : State) (cause : FreezeCause) (date : Option Date) : FrozenSet :=
  { number := s.bfu.counter + 1, time := s.cck.time, gen := s.cck.gen, cause := cause, billingDate := date,
    timeInvalid := !s.cck.valid, calendarId := s.nau.table.calendarId, regs := s.nau.table.regs,
    demands := s.nau.table.demands }

/-- BFU takes a freeze, and NAU empties its max-demand entries with its copy (R17, R110); none with the last number given. -/
def State.takeFreeze (s : State) (cause : FreezeCause) (date : Option Date) : State :=
  if s.bfu.counter = Config.maxSequence then s
  else
    let f := s.capture cause date
    let s1 := s.setNau { s.nau with table := { s.nau.table with demands := .empty } }
    (s1.setBfu { s1.bfu with counter := f.number, captured := some f }).handFreeze

/-- The answer of FREEZE (R112, R219). -/
def FrozenSet.answer (f : FrozenSet) : List Byte := be 4 f.number ++ be 4 f.time ++ flagByte f.timeInvalid

/-- BFU judges a FREEZE request (R110, R112). DESIGN CHOICE (log 31): in CAPTURED the answer is FREEZE_IN_PROGRESS, whatever
the freeze counter. -/
def State.requestFreeze (o : Origin) (s : State) : State :=
  if s.bfu.captured.isSome then s.reply o .freezeInProgress []
  else if s.bfu.counter = Config.maxSequence then s.reply o .badArgument []
  else (s.takeFreeze .requested none).reply o .ok (s.capture .requested none).answer

/-- A port takes FREEZE (R112). -/
def serveFreeze (p : PortId) (tag : Byte) (payload : List Byte) (s : State) : State :=
  s.serveWith p 0x50 tag payload (readEmpty payload) (fun _ => State.requestFreeze)

/-! ## The billing day (R111, R116, R117) -/

/-- BFU's due time (R111). -/
def Bfu.dueTime (b : Bfu) (t : Nat) (valid : Bool) : Option Nat :=
  if b.billingDay = 0 ∨ valid = false then none
  else some (midnightOf (nextBillingDate b.billingDay (b.lastDate.getD (dateOf t))))

/-- BFU re-arms (R111). -/
def State.armBfu (s : State) (t : Nat) (valid : Bool) (how : Reached) : State := s.arm .bfu (s.bfu.dueTime t valid) how

/-- BFU re-arms while it takes a message of CCK (R52, R111). -/
def State.armBfuInTurn (s : State) (t : Nat) (valid : Bool) (how : Reached) : State :=
  s.armInTurn .bfu (s.bfu.dueTime t valid) how

/-- The billing date a due event claims: the latest billing instant at or before its present time, where that is later than
the last date (R111); none under an UNSET clock (R116). -/
def State.claim (s : State) (present : Nat) : Option Date :=
  match latestBillingDate s.bfu.billingDay present with
  | some b => if s.cck.valid && b.laterThan s.bfu.lastDate then some b else none
  | none => none

/-- A scheduled freeze falls due with a billing date: taken in IDLE, deferred in CAPTURED (R111). -/
def State.scheduleFreeze (s : State) (b : Date) : State :=
  if s.bfu.counter = Config.maxSequence then s
  else
    let s1 := s.setBfu { s.bfu with lastDate := some b }
    if s.bfu.captured.isSome then s1.setBfu { s1.bfu with deferred := true }
    else s1.takeFreeze .scheduled (some b)

/-- BFU takes a due event (R111). -/
def State.bfuTakeDue (s : State) (d : Due) : State :=
  let s1 :=
    match s.claim d.present with
    | some b => s.scheduleFreeze b
    | none => s
  s1.armBfuInTurn d.present s1.cck.valid .byAdvance

/-- BFU_DUE_EVENT (R111). -/
def execBfuDueEvent (s : State) : Host.Outcome State Fault Refusal :=
  .next
    (match s.takeDue .bfu with
    | some (d, t) => t.bfuTakeDue d
    | none => s)

/-- BFU_CHANGE_NOTICE (R116). -/
def execBfuChangeNotice (s : State) : Host.Outcome State Fault Refusal :=
  .next
    (match s.takeNotice .bfu with
    | some (n, t) => t.armBfuInTurn n.newTime n.newValid .byChange
    | none => s)

/-- A port takes WRITE_CONFIG_BILLING_DAY (R117, R197): the payload is item code 4 and the value. -/
def serveWriteConfigBillingDay (p : PortId) (tag : Byte) (value : List Byte) (s : State) : State :=
  s.serve p 0x11 tag (4 :: value) (value.length == 1)
    (fun o t => t.writeRanged 0 28 (ofBe value) (.billingDay (ofBe value)) o)

/-- BFU takes a new billing day; the value already held changes nothing (R117 steps 1 and 2). -/
def Bfu.takeDay (b : Bfu) (v t : Nat) (valid : Bool) : Bfu :=
  if v = b.billingDay then b
  else
    { b with
      billingDay := v
      lastDate :=
        match latestBillingDate v t with
        | some d => if valid && d.laterThan b.lastDate then some d else b.lastDate
        | none => b.lastDate }

/-- BILLING_DAY_WRITE_COMPLETION (R117): completed, or refused with STORE_FAULT. -/
def execBillingDayWriteCompletion (s : State) : Host.Outcome State Fault Refusal :=
  .next
    (match s.takeStore .bfu with
    | some (⟨.config (.billingDay v) o, .completed, _, _⟩, t) =>
      ((t.setBfu (t.bfu.takeDay v t.cck.time t.cck.valid)).armBfu t.cck.time t.cck.valid .byAdvance).reply o .ok []
    | some (⟨.config (.billingDay _) o, .refused, _, _⟩, t) => t.reply o .storeFault []
    | _ => s)

/-! ## The write and the erase-ahead (R114, R115, R118) -/

/-- BFU requests the erase-ahead of the sector at the write position (R118, R122). -/
def State.askFrozenErase (s : State) : State :=
  let sector := sectorOfFrozen s.bfu.writePos
  (s.setBfu { s.bfu with erase := .requested }).enqueue (.frozenErase sector) [.erase sector]

/-- The write position advances; past slot 15 the other sector is to be erased, in the write step of a restore once units
resume (R114, R118, R188, log 20). -/
def State.advanceFrozen (s : State) : State :=
  let s1 := s.setBfu { s.bfu with writePos := (s.bfu.writePos + 1) % 32, handed := false }
  if s1.bfu.writePos % 16 = 0 then
    if s.ssv.writeStep then s1.setBfu { s1.bfu with erase := .requested } else s1.askFrozenErase
  else s1

/-- The restore's write step ends (R188). -/
def State.endWriteStep (s : State) : State := s.setSsv { s.ssv with writeStep := false }

/-- The deferred scheduled freeze, where one is deferred (R114 step 5, R122). DESIGN CHOICE (log 31): under an UNSET clock
too, and the set then carries TIME_INVALID. -/
def State.takeDeferred (s : State) : State :=
  if s.bfu.deferred then (s.setBfu { s.bfu with deferred := false }).takeFreeze .scheduled s.bfu.lastDate else s

/-- The captured set joins the history, and the write position moves on (R114 steps 1 to 3). -/
def State.joinHistory (s : State) (f : FrozenSet) : State :=
  let s1 := s.setBfu
    { s.bfu with captured := none, history := ⟨f.number, s.bfu.writePos, false⟩ :: s.bfu.history }
  s1.advanceFrozen

/-- BFU takes the completion of its set's write (R114); in the restore's write step there is no FREEZE_DONE, and the deferred
freeze waits for the resumption (R122). A routine image is wanted (R163). -/
def State.frozenWritten (s : State) : State :=
  match s.bfu.captured with
  | none => s
  | some f =>
    let s1 := s.joinHistory f
    (if s.ssv.writeStep then s1.endWriteStep else (s1.report .ulk .freezeDone true).takeDeferred).wantImage

/-- FROZEN_SET_WRITE_COMPLETION (R114). -/
def execFrozenSetWriteCompletion (s : State) : Host.Outcome State Fault Refusal :=
  .next
    (match s.takeStore .bfu with
    | some (⟨.frozenWrite, .completed, _, _⟩, t) => t.frozenWritten
    | _ => s)

/-- FROZEN_SET_WRITE_REFUSAL (R115). -/
def execFrozenSetWriteRefusal (s : State) : Host.Outcome State Fault Refusal :=
  .next
    (match s.takeStore .bfu with
    | some (⟨.frozenWrite, .refused, _, _⟩, t) => t.advanceFrozen.endWriteStep
    | _ => s)

/-- The view without a sector's sets (R118). -/
def Bfu.eraseGranted (b : Bfu) (sector : Nat) : Bfu :=
  { b with history := b.history.filter fun e => sectorOfFrozen e.pos != sector, erase := .granted }

/-- FROZEN_SET_ERASE_GRANT (R118). -/
def execFrozenSetEraseGrant (s : State) : Host.Outcome State Fault Refusal :=
  .next
    (match s.takeStore .bfu with
    | some (⟨.frozenErase sector, .granted, _, _⟩, t) => t.setBfu (t.bfu.eraseGranted sector)
    | _ => s)

/-- FROZEN_SET_ERASE_OUTCOME (R118): completed, which hands a waiting set to DSC, or refused, which leaves the erase
state as it stands: REQUESTED, or GRANTED where the hold-up commit suspended the erase and FAULT then refused it (DESIGN
CHOICE, log 31). -/
def execFrozenSetEraseOutcome (s : State) : Host.Outcome State Fault Refusal :=
  .next
    (match s.takeStore .bfu with
    | some (⟨.frozenErase _, .completed, _, _⟩, t) => (t.setBfu { t.bfu with erase := .idle }).handFreeze
    | some (⟨.frozenErase _, .refused, _, _⟩, t) => t.endWriteStep
    | _ => s)

/-! ## READ_FROZEN (R119) -/

/-- The answer of READ_FROZEN (R214). -/
def Bfu.readAnswer (b : Bfu) (f : Option FrozenSet) : List Byte :=
  flagByte f.isSome ++ be 4 b.counter ++ flagByte b.captured.isSome
    ++ (match f with
        | some x => x.bytes
        | none => [])

/-- BFU judges a READ_FROZEN (R119): the visible history is the first 13 of the view. -/
def State.readHistory (index : Nat) (o : Origin) (s : State) : State :=
  if 12 < index then s.reply o .badArgument []
  else match s.bfu.history[index]? with
    | some e =>
      if e.failed then s.reply o .ok (s.bfu.readAnswer none)
      else s.enqueue (.frozenRead e.number o) [.readFrozen e.pos]
    | none => s.reply o .ok (s.bfu.readAnswer none)

/-- A port takes READ_FROZEN (R119). -/
def serveReadFrozen (p : PortId) (tag : Byte) (payload : List Byte) (s : State) : State :=
  s.serveWith p 0x51 tag payload (readNumber 1 payload) State.readHistory

/-- The view with a set marked failed (R119). -/
def Bfu.markFailed (b : Bfu) (number : Nat) : Bfu :=
  { b with history := b.history.map fun e => if e.number = number then { e with failed := true } else e }

/-- BFU takes the completion of a read: the set, or absent when it left the view or failed its check (R119). -/
def State.frozenRead (s : State) (number : Nat) (set : Option FrozenSet) (o : Origin) : State :=
  if s.bfu.history.any fun e => e.number == number then
    match set with
    | some f => s.reply o .ok (s.bfu.readAnswer (some f))
    | none => (s.setBfu (s.bfu.markFailed number)).reply o .ok (s.bfu.readAnswer none)
  else s.reply o .ok (s.bfu.readAnswer none)

/-- FROZEN_READ_COMPLETION (R119). -/
def execFrozenReadCompletion (s : State) : Host.Outcome State Fault Refusal :=
  .next
    (match s.takeStore .bfu with
    | some (⟨.frozenRead number o, .completed, _, set⟩, t) => t.frozenRead number set o
    | _ => s)

/-! ## Resumption (R122, R123) -/

/-- BFU at the resumption of units: the deferred freeze in IDLE, the erase still to be requested, the due slot. -/
def State.bfuResume (s : State) : State :=
  let s1 := if s.bfu.captured.isSome then s else s.takeDeferred
  let s2 := if s1.bfu.erase = .requested then s1.askFrozenErase else s1
  s2.armBfu s2.cck.time s2.cck.valid .byAdvance

/-- BFU_RESUMPTION (R122). -/
def execBfuResumption (s : State) : Host.Outcome State Fault Refusal :=
  .next
    (if s.ssv.resumed && s.ssv.owed.bfu then
      (s.setSsv { s.ssv with owed := { s.ssv.owed with bfu := false } }).bfuResume
    else s)

end Sys2Proof.Machine
end

