-- ==== Sys2Proof/Machine/Netting.lean ====
section
/-! DEFINITION. The Netting and Accumulation Unit (chapter 1): epochs, residue carry, maximum demand, the netting mode,
CLEAR_REGISTERS. -/

namespace Sys2Proof.Machine

/-! ## Taking an epoch (section 1.2) -/

/-- The signed values of the mapped phases of an increment. -/
def Increment.phases (inc : Increment) : List Int := [inc.a, inc.b, inc.c].filterMap id

/-- The net value s, the sum of the mapped phases (R5, R139). -/
def Increment.net (inc : Increment) : Int := inc.phases.foldl (· + ·) 0

/-- Import and other-way quantities in SUMMED mode (R5). -/
def splitSummed (inc : Increment) : Nat × Nat := (inc.net.toNat, (-inc.net).toNat)

/-- Import and other-way quantities in PER_PHASE mode (R6). -/
def splitPerPhase (inc : Increment) : Nat × Nat :=
  (inc.phases.foldl (fun acc v => acc + v.toNat) 0, inc.phases.foldl (fun acc v => acc + (-v).toNat) 0)

/-- The split under a netting mode (R4 step 1). -/
def splitPhases (mode : NettingMode) (inc : Increment) : Nat × Nat :=
  match mode with
  | .summed => splitSummed inc
  | .perPhase => splitPerPhase inc

/-- A register after an addition, wrapped (R11). -/
def addWh (r q : Nat) : Nat := (r + q) % Config.wrapWh

/-- The carry of R9: residues and registers after the quantities of one epoch under a band. -/
def Table.carry (t : Table) (band imp exp : Nat) (gen : Option Nat) : Table :=
  let qi := (t.res.imp + imp) / 1000
  let qe := (t.res.exp + exp) / 1000
  let g := gen.getD 0
  let qg := (t.res.gen + g) / 1000
  { t with
    res := ⟨(t.res.imp + imp) % 1000, (t.res.exp + exp) % 1000, (t.res.gen + g) % 1000⟩
    regs :=
      { imp := t.regs.imp.set band (addWh (t.regs.imp.get band) qi)
        exp := t.regs.exp.set band (addWh (t.regs.exp.get band) qe)
        totalImp := addWh t.regs.totalImp qi
        totalExp := addWh t.regs.totalExp qe
        gen := addWh t.regs.gen qg } }

/-- NAU after one Epoch Increment under TCU's answer of a band and a calendar id (R3, R4, R8). -/
def Nau.take (n : Nau) (inc : Increment) (band : Nat) (calendarId : Option Nat) : Nau :=
  let carried :=
    if inc.fault then n.table
    else
      let q := splitPhases n.mode inc
      n.table.carry band q.1 q.2 inc.gen
  { n with table := { carried with calendarId := calendarId } }

/-- The split increment NAU forwards to IPU (R8, R12). -/
def Nau.split (n : Nau) (inc : Increment) : Split :=
  if inc.fault then ⟨0, 0, none, true, inc.missed⟩
  else
    let q := splitPhases n.mode inc
    ⟨q.1, q.2, inc.gen, false, inc.missed⟩

/-- TCU's active calendar id (R60). -/
def Tcu.activeId (t : Tcu) : Option Nat := t.active.map fun r => r.calendar.id

/-- NAU takes one increment: nets and carries it under TCU's band, records the calendar id and forwards the split (R4). -/
def State.nauTake (s : State) (inc : Increment) : State :=
  (s.setNau (s.nau.take inc s.tcu.band s.tcu.activeId)).setMail
    { s.mail with ipuEnergy := s.mail.ipuEnergy ++ [.split (s.nau.split inc)] }

/-- NAU_EPOCH_INCREMENT (R4): the oldest increment in transit; none is taken in HOLDUP (section 1.8, log 7). -/
def execNauEpochIncrement (s : State) : Host.Outcome State Fault Refusal :=
  .next
    (if s.onMains then
      match s.mail.nauEpochs with
      | inc :: rest => (s.setMail { s.mail with nauEpochs := rest }).nauTake inc
      | [] => s
    else s)

/-! ## The netting mode (section 1.4) -/

/-- NAU judges a netting-mode write (R14). -/
def State.writeNetting (v : Nat) (o : Origin) (s : State) : State :=
  match v with
  | 0 => s.enqueue (.config (.netting .summed) o) []
  | 1 => s.enqueue (.config (.netting .perPhase) o) []
  | _ => s.reply o .badArgument []

/-- A port takes WRITE_CONFIG_NETTING_MODE (R14, R197): the payload is item code 2 and the value. -/
def serveWriteConfigNettingMode (p : PortId) (tag : Byte) (value : List Byte) (s : State) : State :=
  s.serve p 0x11 tag (2 :: value) (value.length == 1) (fun o t => t.writeNetting (ofBe value) o)

/-- NAU takes a completed mode write: pending, or none when it equals the current mode (R14). -/
def Nau.takeMode (n : Nau) (m : NettingMode) : Nau := { n with pendingMode := if m = n.mode then none else some m }

/-- NETTING_MODE_WRITE_COMPLETION (R14): completed, or refused with STORE_FAULT. -/
def execNettingModeWriteCompletion (s : State) : Host.Outcome State Fault Refusal :=
  .next
    (match s.takeStore .nau with
    | some (⟨.config (.netting m) o, .completed, _, _⟩, t) => (t.setNau (t.nau.takeMode m)).reply o .ok []
    | some (⟨.config (.netting _) o, .refused, _, _⟩, t) => t.reply o .storeFault []
    | _ => s)

/-- NAU after an interval close: a pending mode becomes current (R15). -/
def Nau.closed (n : Nau) : Nau := { n with mode := n.pendingMode.getD n.mode, pendingMode := none }

/-- NAU_INTERVAL_CLOSE (R15): taken before the demand report of the same close (R86). -/
def execNauIntervalClose (s : State) : Host.Outcome State Fault Refusal :=
  .next
    (match s.mail.nauCloses with
    | .close :: rest => (s.setMail { s.mail with nauCloses := rest }).setNau s.nau.closed
    | _ => s)

/-! ## Maximum demand (section 1.5) -/

/-- An entry after a report: replaced when the report is strictly greater (R16). -/
def Demand.raise (d : Demand) (watts endTime : Nat) : Demand := if d.watts < watts then ⟨watts, some endTime⟩ else d

/-- The entries after a demand report (R16). -/
def Demands.take (d : Demands) (r : DemandReport) : Demands :=
  { imp := d.imp.set r.band ((d.imp.get r.band).raise r.imp r.endTime), exp := d.exp.raise r.exp r.endTime }

/-- NAU_DEMAND_REPORT (R16). -/
def execNauDemandReport (s : State) : Host.Outcome State Fault Refusal :=
  .next
    (match s.mail.nauCloses with
    | .demand r :: rest =>
      (s.setMail { s.mail with nauCloses := rest }).setNau
        { s.nau with table := { s.nau.table with demands := s.nau.table.demands.take r } }
    | _ => s)

/-! ## CLEAR_REGISTERS (R20) -/

/-- The table cleared; the calendar id stays (R20). -/
def Table.cleared (t : Table) : Table := { Table.zero with calendarId := t.calendarId }

/-- NAU judges CLEAR_REGISTERS by the lifecycle DSC holds (R20). -/
def State.clearRegisters (o : Origin) (s : State) : State :=
  match s.dsc.lifecycle with
  | .inService => s.reply o .wrongLifecycle []
  | .commissioning => (s.setNau { s.nau with table := s.nau.table.cleared }).reply o .ok []

/-- A port takes CLEAR_REGISTERS (R20). -/
def serveClearRegisters (p : PortId) (tag : Byte) (payload : List Byte) (s : State) : State :=
  s.serveWith p 0x70 tag payload (readEmpty payload) (fun _ o t => t.clearRegisters o)

end Sys2Proof.Machine
end

