-- ==== Sys2Proof/Machine/ExportControl.lean ====
section
/-! DEFINITION. The Export Control Unit (chapter 7): the Directive List, the effective limit, the setpoint handshake,
compliance, the interlock. -/

namespace Sys2Proof.Machine

/-! ## Limits (R132, R138) -/

/-- The enforced limit (R138). -/
def Ecu.enforced (e : Ecu) : Nat :=
  match e.handshake with
  | .notified => max e.effective e.settled
  | .settled | .overdue => e.effective

/-- The entry with the lowest limit, the first in list order among equals (R132). -/
def lowestLimit : List Directive → Option Directive
  | [] => none
  | d :: t =>
    match lowestLimit t with
    | some x => if x.limit < d.limit then some x else some d
    | none => some d

/-- The governing directive of a list (R132). -/
def governingOf (l : List Directive) (valid : Bool) : Option Directive :=
  if valid then l.find? fun d => d.active else lowestLimit l

/-- The effective limit under a governing directive (R132). -/
def effectiveOf (staticLimit : Nat) : Option Directive → Nat
  | none => staticLimit
  | some d => min staticLimit d.limit

/-! ## The due slot (R129) -/

/-- ECU's due time (R129). -/
def Ecu.dueTime (e : Ecu) (valid : Bool) : Option Nat :=
  let starts := if valid then (e.list.filter fun d => !d.active).map fun d => some d.start else []
  let ends := if valid then e.list.map fun d => d.stop else []
  earliest
    (starts ++ ends
      ++ [if e.handshake = .notified then e.deadline else none, if e.interlock = .openWait then e.openEnd else none])

/-- ECU re-arms (R129). -/
def State.armEcu (s : State) (valid : Bool) (how : Reached) : State := s.arm .ecu (s.ecu.dueTime valid) how

/-- ECU re-arms while it takes a message of CCK (R52, R129). -/
def State.armEcuInTurn (s : State) (valid : Bool) (how : Reached) : State := s.armInTurn .ecu (s.ecu.dueTime valid) how

/-! ## The interlock (R142, R143) -/

/-- A change of interlock state: EXPORT_PERMIT, the report to IPU, the routine image (R142, R148, R163). -/
def State.setInterlock (s : State) (i : Interlock) : State :=
  let s1 := (s.setEcu { s.ecu with interlock := i }).setExportPermit (i == .closed && s.onMains)
  (s1.setMail { s1.mail with ipuInterlock := s1.mail.ipuInterlock ++ [i == .closed] }).wantImage

/-- INTERLOCK_OPEN raised on the Utility Link and the Site Link (R143, R146). -/
def State.raiseOpen (s : State) : State := (s.report .ulk .interlockOpen true).report .slk .interlockOpen true

/-- A trip at a time (R143); the event that trips re-arms. -/
def State.trip (s : State) (t : Nat) (c : Cause) : State :=
  ((s.setEcu { s.ecu with cause := c, openEnd := some (t + s.ecu.config.minOpen), excursion := 0 }).setInterlock
    .openWait).raiseOpen

/-- The trip condition of a lost measurement (R141). -/
def Ecu.unpoliced (e : Ecu) : Bool :=
  e.view == .lost && e.interlock == .closed && decide (e.effective < e.config.staticLimit)

/-- The trip with MEASUREMENT_LOST where its condition holds (R141). -/
def State.tripIfLost (s : State) (t : Nat) : State := if s.ecu.unpoliced then s.trip t .measurementLost else s

/-! ## Setpoint Notices (R135) -/

/-- ECU after issuing a notice at a time (R135). DESIGN CHOICE (log 17): between CCK's change of time and ECU's taking of its
notice, the deadline held, not yet carried (R131), is compared with one counted from CCK's new time. -/
def Ecu.notify (e : Ecu) (now : Nat) : Ecu :=
  { e with
    notice := (e.notice + 1) % 65536
    noticeLimit := e.effective
    handshake := if e.handshake = .overdue then .overdue else .notified
    deadline :=
      match e.handshake with
      | .settled => some (now + e.config.ackTime)
      | .notified => if e.effective < e.noticeLimit then earlier e.deadline (some (now + e.config.ackTime)) else e.deadline
      | .overdue => none }

/-- ECU issues a Setpoint Notice (R135). -/
def State.issueNotice (s : State) (now : Nat) : State :=
  (s.setEcu (s.ecu.notify now)).report .slk .setpointNotice true

/-! ## Recomputation (R133) -/

/-- ECU with the governing directive and the effective limit of its list (R132). -/
def Ecu.computed (e : Ecu) (valid : Bool) : Ecu :=
  let g := governingOf e.list valid
  { e with governing := g.map fun d => (d.id, d.seq), effective := effectiveOf e.config.staticLimit g }

/-- The recomputation of R133 at a time under a validity, with the test of R141. -/
def State.recompute (s : State) (now : Nat) (valid : Bool) : State :=
  let e := s.ecu.computed valid
  let s1 := s.setEcu e
  let s2 := if e.governing = s.ecu.governing then s1 else s1.report .ulk .directiveChange true
  let s3 := if e.effective = s.ecu.effective then s2 else s2.issueNotice now
  s3.tripIfLost now

/-- Entries that ended leave; SCHEDULED entries whose start has come become ACTIVE (R130 step 3). -/
def bringTo (l : List Directive) (p : Nat) : List Directive :=
  (l.filter fun d =>
      match d.stop with
      | some e => decide (p < e)
      | none => true).map
    fun d => { d with active := d.active || decide (d.start ≤ p) }

/-- ECU with a new Directive List; a change wants an image (R163). -/
def State.setList (s : State) (l : List Directive) : State :=
  if l = s.ecu.list then s else (s.setEcu { s.ecu with list := l }).wantImage

/-! ## Due events and notices (R130, R131) -/

/-- Steps 1 of R130: the deadline (R137). -/
def Ecu.expireDeadline (e : Ecu) (p : Nat) : Ecu :=
  match e.handshake, e.deadline with
  | .notified, some d => if d ≤ p then { e with handshake := .overdue, deadline := none } else e
  | _, _ => e

/-- Step 2 of R130: the open-time end (R144). -/
def State.endOpenTime (s : State) (p : Nat) : State :=
  match s.ecu.interlock, s.ecu.openEnd with
  | .openWait, some d => if d ≤ p then (s.setEcu { s.ecu with openEnd := none }).setInterlock .openReady else s
  | _, _ => s

/-- ECU takes a due event (R130), under the validity CCK holds then, also where the notice of its change still waits (DESIGN
CHOICE, log 17). -/
def State.ecuTakeDue (s : State) (d : Due) : State :=
  let p := d.present
  let s1 := (s.setEcu (s.ecu.expireDeadline p)).endOpenTime p
  let s2 := if s.cck.valid then s1.setList (bringTo s1.ecu.list p) else s1
  (s2.recompute p s.cck.valid).armEcuInTurn s.cck.valid .byAdvance

/-- ECU_DUE_EVENT (R130). -/
def execEcuDueEvent (s : State) : Host.Outcome State Fault Refusal :=
  .next
    (match s.takeDue .ecu with
    | some (d, t) => t.ecuTakeDue d
    | none => s)

/-- A deadline carried across a change of time (R131 step 1). -/
def carryTime (t0 t1 : Nat) (d : Option Nat) : Option Nat := d.map fun x => t1 + (x - t0)

/-- ECU takes a change notice (R131); the due test follows it (R52). DESIGN CHOICE (log 17): a deadline or an open-time end
that a request or an epoch set between CCK's change and this notice, from CCK's new time, is carried like any other, and a
deadline or an open-time end that the recomputation of step 3 sets counts from t1, not from CCK's time at this event. -/
def State.ecuTakeNotice (s : State) (n : Notice) : State :=
  let s1 := s.setEcu
    { s.ecu with
      deadline := carryTime n.oldTime n.newTime s.ecu.deadline
      openEnd := carryTime n.oldTime n.newTime s.ecu.openEnd }
  let s2 := if !n.oldValid && n.newValid then s1.setList (bringTo s1.ecu.list n.newTime) else s1
  (s2.recompute n.newTime n.newValid).armEcuInTurn n.newValid .byChange

/-- ECU_CHANGE_NOTICE (R131). -/
def execEcuChangeNotice (s : State) : Host.Outcome State Fault Refusal :=
  .next
    (match s.takeNotice .ecu with
    | some (n, t) => t.ecuTakeNotice n
    | none => s)

/-! ## POST_DIRECTIVE and CANCEL_DIRECTIVE (R125 to R128) -/

/-- The end time of a post (R208). The end bytes behind a presence byte 0x00 are ignored, where R206 has them sent as 0x00 and
gives no refusal (DESIGN CHOICE, log 30). -/
def PostFields.ends (f : PostFields) : Option Nat := if f.presence = 1 then some f.stop else none

/-- The checks of R126 and of the presence byte (R208). -/
def PostFields.acceptable (f : PostFields) (now : Nat) (valid : Bool) : Bool :=
  decide (f.priority ≤ 7) && decide (f.limit ≤ 100000) && decide (f.presence ≤ 1)
    && (match f.ends with
        | some e => decide (f.start < e) && !(valid && decide (e ≤ now))
        | none => true)

/-- An entry put in list order: by priority, the newest post of a priority first (R125, R127 step 4). -/
def insertDirective (d : Directive) : List Directive → List Directive
  | [] => [d]
  | x :: t => if x.priority < d.priority then x :: insertDirective d t else d :: x :: t

/-- Steps 1 and 2 of R127: the list with room for the post, and the entry removed with the code of its cause (REPLACED 0,
EVICTED 1); none when the list is full. The list's last entry is the oldest of its lowest priority. -/
def makeRoom (l : List Directive) (id priority : Nat) : Option (List Directive × Option (Nat × Nat)) :=
  if l.any fun d => d.id == id then some (l.filter fun d => d.id != id, some (id, 0))
  else if l.length < 8 then some (l, none)
  else match l.getLast? with
    | some v => if priority < v.priority then some (l.dropLast, some (v.id, 1)) else none
    | none => some (l, none)

/-- An entry's number from the oldest post of a list (R125). -/
def rankOf (l : List Directive) (seq : Nat) : Nat := (l.filter fun d => d.seq < seq).length + 1

/-- The list, the governing entry and the next post sequence renumbered after the last sequence was given (R125). DESIGN
CHOICE (log 31): it follows the recomputation of R127 step 5 and carries the governing entry with it, so that an unchanged
entry raises no DIRECTIVE_CHANGE. -/
def Ecu.renumber (e : Ecu) : Ecu :=
  if e.nextSeq ≤ Config.maxSequence then e
  else
    { e with
      list := e.list.map fun d => { d with seq := rankOf e.list d.seq }
      governing := e.governing.map fun g => (g.1, rankOf e.list g.2)
      nextSeq := e.list.length + 1 }

/-- The directive of an accepted post (R127 steps 3 and 4). -/
def PostFields.directive (f : PostFields) (seq now : Nat) (valid : Bool) : Directive :=
  { id := f.id, limit := f.limit, start := f.start, stop := f.ends, priority := f.priority, seq := seq,
    active := valid && decide (f.start ≤ now) }

/-- The answer of POST_DIRECTIVE (R216). -/
def postAnswer (active : Bool) (seq : Nat) (removed : Option (Nat × Nat)) : List Byte :=
  flagByte active ++ be 4 seq
    ++ (match removed with
        | some (id, cause) => be 1 1 ++ be 2 id ++ be 1 cause
        | none => be 1 0 ++ be 2 0 ++ be 1 0)

/-- The post sequence an id has in a list. -/
def seqOf (l : List Directive) (id : Nat) : Nat :=
  match l.find? fun d => d.id == id with
  | some d => d.seq
  | none => 0

/-- ECU places an accepted directive (R127), under the validity CCK holds, also where the notice of its change still waits
(DESIGN CHOICE, log 17). -/
def State.placeDirective (s : State) (f : PostFields) (room : List Directive) : State :=
  let d := f.directive s.ecu.nextSeq s.cck.time s.cck.valid
  let s1 := (s.setEcu { s.ecu with list := insertDirective d room, nextSeq := s.ecu.nextSeq + 1 }).wantImage
  let s2 := s1.recompute s.cck.time s.cck.valid
  (s2.setEcu s2.ecu.renumber).armEcu s.cck.valid .byAdvance

/-- ECU judges a post (R126, R127). -/
def State.postDirective (f : PostFields) (o : Origin) (s : State) : State :=
  if f.acceptable s.cck.time s.cck.valid then
    match makeRoom s.ecu.list f.id f.priority with
    | none => s.reply o .listFull []
    | some (room, removed) =>
      let s1 := s.placeDirective f room
      s1.reply o .ok
        (postAnswer (f.directive 0 s.cck.time s.cck.valid).active (seqOf s1.ecu.list f.id) removed)
  else s.reply o .badArgument []

/-- A port takes POST_DIRECTIVE (R126). -/
def servePostDirective (p : PortId) (tag : Byte) (payload : List Byte) (s : State) : State :=
  s.serveWith p 0x60 tag payload (readPost payload) State.postDirective

/-- ECU judges a cancel (R128), under the validity CCK holds, also where the notice of its change still waits (DESIGN CHOICE,
log 17). -/
def State.cancelDirective (id : Nat) (o : Origin) (s : State) : State :=
  if s.ecu.list.any fun d => d.id == id then
    let s1 := s.setList (s.ecu.list.filter fun d => d.id != id)
    ((s1.recompute s.cck.time s.cck.valid).armEcu s.cck.valid .byAdvance).reply o .ok []
  else s.reply o .unknownId []

/-- A port takes CANCEL_DIRECTIVE (R128). -/
def serveCancelDirective (p : PortId) (tag : Byte) (payload : List Byte) (s : State) : State :=
  s.serveWith p 0x61 tag payload (readNumber 2 payload) State.cancelDirective

/-! ## The handshake (R136) -/

/-- ECU after the current notice is acknowledged (R136). -/
def Ecu.acknowledged (e : Ecu) : Ecu := { e with handshake := .settled, settled := e.effective, deadline := none }

/-- ECU judges an acknowledgement (R136). -/
def State.ackSetpoint (n : Nat) (o : Origin) (s : State) : State :=
  if s.ecu.handshake = .settled then s.reply o .ok []
  else if n = s.ecu.notice then
    (((s.setEcu s.ecu.acknowledged).report .slk .setpointNotice false).armEcu s.cck.valid .byAdvance).reply o .ok []
  else s.reply o .staleNotice []

/-- A port takes ACK_SETPOINT (R136). -/
def serveAckSetpoint (p : PortId) (tag : Byte) (payload : List Byte) (s : State) : State :=
  s.serveWith p 0x63 tag payload (readNumber 2 payload) State.ackSetpoint

/-! ## Compliance (R139 to R141) -/

/-- Whether an epoch is over the enforced limit and tolerance, compared exactly (R139). -/
def Ecu.exceeds (e : Ecu) (inc : Increment) : Bool :=
  decide (inc.net < 0) && decide ((e.enforced + e.config.tolerance) * 10 < (-inc.net).toNat * 36)

/-- ECU judges an epoch while CLOSED (R139, R140). -/
def State.judgeEpoch (s : State) (inc : Increment) : State :=
  if inc.fault then s
  else if s.ecu.exceeds inc then
    if s.ecu.handshake = .overdue then (s.trip s.cck.time .overdueExcess).armEcu s.cck.valid .byAdvance
    else if s.ecu.config.grace ≤ s.ecu.excursion + 1 then
      (s.trip s.cck.time .overLimit).armEcu s.cck.valid .byAdvance
    else s.setEcu { s.ecu with excursion := s.ecu.excursion + 1 }
  else s.setEcu { s.ecu with excursion := 0 }

/-- ECU takes a state report (R141). -/
def State.takePort (s : State) (st : MfpState) : State :=
  let s1 := s.setEcu { s.ecu with view := st }
  if s1.ecu.unpoliced then (s1.trip s.cck.time .measurementLost).armEcu s.cck.valid .byAdvance else s1

/-- ECU takes a message of MFP: an epoch is judged while CLOSED, a state report enters the view (R139, R141). -/
def State.takeEcuMail (s : State) (m : EcuMail) : State :=
  match m with
  | .epoch inc => if s.ecu.interlock = .closed then s.judgeEpoch inc else s
  | .port st => s.takePort st

/-- ECU_EPOCH_INCREMENT (R139): the epoch at the head of MFP's messages (log 6); none is taken in HOLDUP (R148). -/
def execEcuEpochIncrement (s : State) : Host.Outcome State Fault Refusal :=
  .next
    (if s.onMains then
      match s.mail.ecuMfp with
      | .epoch inc :: rest => (s.setMail { s.mail with ecuMfp := rest }).takeEcuMail (.epoch inc)
      | _ => s
    else s)

/-- ECU_MFP_STATE_REPORT (R141): the report at the head of MFP's messages (log 6). -/
def execEcuMfpStateReport (s : State) : Host.Outcome State Fault Refusal :=
  .next
    (match s.mail.ecuMfp with
    | .port st :: rest =>
      if s.inService .ecu then (s.setMail { s.mail with ecuMfp := rest }).takeEcuMail (.port st) else s
    | _ => s)

/-- ECU takes messages of MFP one after the other; then its view is IDLE. -/
def State.settleFrom : List EcuMail → State → State
  | [], s => s.setEcu { s.ecu with view := .idle }
  | m :: rest, s => State.settleFrom rest ((s.setMail { s.mail with ecuMfp := rest }).takeEcuMail m)

/-- ECU at the return to MAINS without a restore: what MFP sent before is taken in order, and the view is IDLE before any due
event is (R148, R182). DESIGN CHOICE (log 7): the messages still in transit are taken at the return and none is lost. -/
def State.settleMfp (s : State) : State := State.settleFrom s.mail.ecuMfp s

/-! ## RECLOSE_REQUEST and UTILITY_HOLD (R145, R146) -/

/-- Seconds that remain to a time. -/
def remaining (now t : Nat) : Nat := t - now

/-- The three conditions of a reclose in their order: the first that fails (R145). -/
def Ecu.recloseRefusal (e : Ecu) : Option Result :=
  if e.handshake ≠ .settled then some .notSettled
  else if e.view ≠ .locked then some .noMeasurement
  else if e.effective = 0 then some .zeroLimit
  else none

/-- ECU judges a reclose (R145). -/
def State.reclose (o : Origin) (s : State) : State :=
  match s.ecu.interlock with
  | .closed => s.reply o .ok []
  | .openWait => s.reply o .tooEarly (be 2 (remaining s.cck.time (s.ecu.openEnd.getD s.cck.time)))
  | .held => s.reply o .held []
  | .openReady =>
    match s.ecu.recloseRefusal with
    | some r => s.reply o r []
    | none =>
      (((s.setEcu { s.ecu with excursion := 0 }).setInterlock .closed).armEcu s.cck.valid .byAdvance).reply o .ok []

/-- A port takes RECLOSE_REQUEST (R145). -/
def serveRecloseRequest (p : PortId) (tag : Byte) (payload : List Byte) (s : State) : State :=
  s.serveWith p 0x64 tag payload (readEmpty payload) (fun _ => State.reclose)

/-- The open-time end when the hold opens the interlock (R146). -/
def Ecu.holdEnd (e : Ecu) (now : Nat) : Option Nat :=
  match e.interlock with
  | .closed => some (now + e.config.minOpen)
  | .openWait | .held => e.openEnd
  | .openReady => none

/-- The hold turned on (R146). -/
def State.holdOn (s : State) : State :=
  if s.ecu.hold then s
  else
    let s1 := s.setEcu
      { s.ecu with hold := true, cause := .utilityHold, excursion := 0, openEnd := s.ecu.holdEnd s.cck.time }
    (s1.setInterlock .held).raiseOpen.armEcu s.cck.valid .byAdvance

/-- The hold released (R146). DESIGN CHOICE (log 17): between CCK's change of time and ECU's taking of its notice, the open-time
end, not yet carried (R131), is compared with CCK's new time. -/
def State.holdOff (s : State) : State :=
  if s.ecu.hold then
    let s1 := s.setEcu { s.ecu with hold := false }
    let s2 :=
      match s.ecu.openEnd with
      | some t =>
        if t ≤ s.cck.time then (s1.setEcu { s1.ecu with openEnd := none }).setInterlock .openReady
        else s1.setInterlock .openWait
      | none => s1.setInterlock .openReady
    s2.armEcu s.cck.valid .byAdvance
  else s

/-- The answer of UTILITY_HOLD: the interlock after the request (R146, R219). -/
def State.answerHold (s : State) (o : Origin) : State := s.reply o .ok (be 1 s.ecu.interlock.code)

/-- ECU judges a UTILITY_HOLD by its byte (R146, R208). -/
def State.utilityHold (v : Nat) (o : Origin) (s : State) : State :=
  match v with
  | 0 => s.holdOff.answerHold o
  | 1 => s.holdOn.answerHold o
  | _ => s.reply o .badArgument []

/-- A port takes a UTILITY_HOLD frame, the rows UTILITY_HOLD_ON and UTILITY_HOLD_OFF (R146). -/
def serveUtilityHold (p : PortId) (tag : Byte) (payload : List Byte) (s : State) : State :=
  s.serveWith p 0x62 tag payload (readNumber 1 payload) State.utilityHold

/-! ## Configuration (R134) -/

/-- A port takes WRITE_CONFIG_STATIC_CONNECTION_LIMIT (R134, R197): the payload is item code 5 and the value. -/
def serveWriteConfigStaticConnectionLimit (p : PortId) (tag : Byte) (value : List Byte) (s : State) : State :=
  s.serve p 0x11 tag (5 :: value) (value.length == 4)
    (fun o t => t.writeRanged 0 100000 (ofBe value) (.staticLimit (ofBe value)) o)

/-- A port takes WRITE_CONFIG_EXPORT_TOLERANCE (R134, R197): the payload is item code 6 and the value. -/
def serveWriteConfigExportTolerance (p : PortId) (tag : Byte) (value : List Byte) (s : State) : State :=
  s.serve p 0x11 tag (6 :: value) (value.length == 2)
    (fun o t => t.writeRanged 0 5000 (ofBe value) (.tolerance (ofBe value)) o)

/-- A port takes WRITE_CONFIG_GRACE (R134, R197): the payload is item code 7 and the value. -/
def serveWriteConfigGrace (p : PortId) (tag : Byte) (value : List Byte) (s : State) : State :=
  s.serve p 0x11 tag (7 :: value) (value.length == 1)
    (fun o t => t.writeRanged 1 120 (ofBe value) (.grace (ofBe value)) o)

/-- A port takes WRITE_CONFIG_ACKNOWLEDGEMENT_TIME (R134, R197): the payload is item code 8 and the value. -/
def serveWriteConfigAcknowledgementTime (p : PortId) (tag : Byte) (value : List Byte) (s : State) : State :=
  s.serve p 0x11 tag (8 :: value) (value.length == 2)
    (fun o t => t.writeRanged 5 600 (ofBe value) (.ackTime (ofBe value)) o)

/-- A port takes WRITE_CONFIG_MINIMUM_OPEN_TIME (R134, R197): the payload is item code 9 and the value. -/
def serveWriteConfigMinimumOpenTime (p : PortId) (tag : Byte) (value : List Byte) (s : State) : State :=
  s.serve p 0x11 tag (9 :: value) (value.length == 2)
    (fun o t => t.writeRanged 30 3600 (ofBe value) (.minOpen (ofBe value)) o)

/-- ECU takes a completed write of one of its items (R134); the limit is computed under the validity CCK holds, also where the
notice of its change still waits (DESIGN CHOICE, log 17). -/
def State.takeEcuItem (s : State) (w : ConfigWrite) : State :=
  let c := s.ecu.config
  match w with
  | .staticLimit v =>
    ((s.setEcu { s.ecu with config := { c with staticLimit := v } }).recompute s.cck.time s.cck.valid).armEcu s.cck.valid
      .byAdvance
  | .tolerance v => s.setEcu { s.ecu with config := { c with tolerance := v } }
  | .grace v => s.setEcu { s.ecu with config := { c with grace := v } }
  | .ackTime v => s.setEcu { s.ecu with config := { c with ackTime := v } }
  | .minOpen v => s.setEcu { s.ecu with config := { c with minOpen := v } }
  | .slotMap _ | .netting _ | .length _ | .billingDay _ | .utilityThreshold _ | .siteThreshold _ | .protection _ _ => s

/-- ECU_CONFIG_WRITE_COMPLETION (R134): completed, or refused with STORE_FAULT. -/
def execEcuConfigWriteCompletion (s : State) : Host.Outcome State Fault Refusal :=
  .next
    (match s.takeStore .ecu with
    | some (⟨.config w o, .completed, _, _⟩, t) => (t.takeEcuItem w).reply o .ok []
    | some (⟨.config _ o, .refused, _, _⟩, t) => t.reply o .storeFault []
    | _ => s)

/-! ## Reading the export state (R147) -/

/-- The answer of READ_EXPORT_STATUS (R147, R219). Seconds remaining above 65,535, as between a backward change of time and
ECU's notice, are sent modulo 65,536 (DESIGN CHOICE, log 32). -/
def Ecu.status (e : Ecu) (now : Nat) : List Byte :=
  be 4 e.config.staticLimit ++ be 4 e.effective ++ be 4 e.enforced ++ optBe 2 (e.governing.map fun g => g.1)
    ++ be 2 e.notice ++ be 4 e.noticeLimit ++ be 1 e.handshake.code
    ++ optBe 2 (if e.handshake = .notified then e.deadline.map (remaining now) else none) ++ be 4 e.settled
    ++ be 1 e.excursion ++ be 2 e.config.tolerance ++ be 1 e.config.grace ++ be 1 e.interlock.code ++ be 1 e.cause.code
    ++ flagByte e.hold ++ optBe 2 (e.openEnd.map (remaining now)) ++ be 1 e.view.code

/-- ECU answers READ_EXPORT_STATUS (R147). -/
def State.answerExportStatus (o : Origin) (s : State) : State := s.reply o .ok (s.ecu.status s.cck.time)

/-- A port takes READ_EXPORT_STATUS (R147). -/
def serveReadExportStatus (p : PortId) (tag : Byte) (payload : List Byte) (s : State) : State :=
  s.serveWith p 0x65 tag payload (readEmpty payload) (fun _ => State.answerExportStatus)

/-- The answer of READ_DIRECTIVES, the governing entry marked (R147, R216). -/
def directivesAnswer (l : List Directive) (valid : Bool) : List Byte :=
  let g := (governingOf l valid).map fun d => d.id
  be 1 l.length ++ l.flatMap fun d => d.bytes (g == some d.id)

/-- ECU answers READ_DIRECTIVES (R147). -/
def State.answerDirectives (o : Origin) (s : State) : State := s.reply o .ok (directivesAnswer s.ecu.list s.cck.valid)

/-- A port takes READ_DIRECTIVES (R147). -/
def serveReadDirectives (p : PortId) (tag : Byte) (payload : List Byte) (s : State) : State :=
  s.serveWith p 0x66 tag payload (readEmpty payload) (fun _ => State.answerDirectives)

/-! ## Resumption (R150, R151) -/

/-- Step 3 of R150: the handshake. -/
def State.resumeHandshake (s : State) (now : Nat) : State :=
  match s.ecu.handshake with
  | .notified =>
    let e := s.ecu.notify now
    (s.setEcu { e with deadline := some (now + e.config.ackTime) }).report .slk .setpointNotice true
  | .settled | .overdue => if s.ecu.effective = s.ecu.noticeLimit then s else s.issueNotice now

/-- Steps 4 and 5 of R150: the open-time end and the count; the measurement view is IDLE. -/
def Ecu.resumed (e : Ecu) (now : Nat) : Ecu :=
  { e with
    excursion := 0
    view := .idle
    openEnd :=
      match e.interlock with
      | .openWait | .held => some (now + e.config.minOpen)
      | .closed | .openReady => none }

/-- ECU takes up its list and limits after a restart with a valid image (R150). -/
def State.ecuResumeImage (s : State) : State :=
  let now := s.cck.time
  let s1 := if s.cck.valid then s.setList (bringTo s.ecu.list now) else s
  let s2 := (s1.setEcu (s1.ecu.computed s.cck.valid)).resumeHandshake now
  (s2.setEcu (s2.ecu.resumed now)).armEcu s.cck.valid .byAdvance

/-- ECU at the resumption of units, by the kind of the restart (R150, R151). -/
def State.ecuResume (s : State) : State :=
  match s.ssv.kind with
  | .cold | .imageLost => s.armEcu s.cck.valid .byAdvance
  | .supply | .commanded | .resetInput => s.ecuResumeImage

/-- ECU_RESUMPTION (R150). -/
def execEcuResumption (s : State) : Host.Outcome State Fault Refusal :=
  .next
    (if s.ssv.resumed && s.ssv.owed.ecu then
      (s.setSsv { s.ssv with owed := { s.ssv.owed with ecu := false } }).ecuResume
    else s)

end Sys2Proof.Machine
end

