-- ==== Sys2Proof/Machine/Measurement.lean ====
section
/-! DEFINITION. The Measurement Frame Port (chapter 2): frames, the frame deadline, the slot map. -/

namespace Sys2Proof.Machine

/-! ## The frame (section 2.2, R211) -/

/-- The 32 slot bytes of a frame whose length and check are good (R26, R211). -/
def parseMeasurement (bytes : List Byte) : Option (List Byte) :=
  match bytes with
  | m :: l :: rest =>
    if m = 0xA5#8 ∧ l = 32#8 ∧ rest.length = 34 ∧ rest.drop 32 = crcBytes (l :: rest.take 32) then some (rest.take 32)
    else none
  | _ => none

/-- What the bytes of a measurement frame so far say of its length: any length but 32 is bad (R211). -/
def frameExtent (bytes : List Byte) : Extent :=
  match bytes with
  | _ :: l :: _ => if l = 32#8 then .whole 36 else .bad
  | _ => .unknown

/-- The 4-byte content of slot n. -/
def slotWord (slots : List Byte) (n : Nat) : Nat := ofBe ((slots.drop (4 * n)).take 4)

/-- The sequence number in the header (R27, R211). -/
def headerSeq (slots : List Byte) : Nat := (slots.headD 0).toNat % 16

/-- A flag bit of header byte 1 (R27, R211). -/
def headerBit (slots : List Byte) (n : Nat) : Bool := ((slots.drop 1).headD 0).toNat.testBit n

/-- The slot that holds a role; a map holds each phase and GEN in at most one (R28). -/
def SlotMap.slotOf (m : SlotMap) (r : Role) : Option Nat := (m.toList.findIdx? fun x => x == r).map fun i => i + 1

/-- The raw value of a phase: its slot's signed content, or 0 mWh when its voltage-present flag is clear (R27, R28). -/
def phaseValue (m : SlotMap) (slots : List Byte) (r : Role) (volt : Bool) : Option Int :=
  (m.slotOf r).map fun n => if volt then signed32 (slotWord slots n) else 0

/-- The raw generation value (R28). -/
def genValue (m : SlotMap) (slots : List Byte) : Option Nat := (m.slotOf .gen).map fun n => slotWord slots n

/-- Whether a phase value lies in its valid range (R28). -/
def phaseInRange (v : Option Int) : Bool :=
  match v with
  | none => true
  | some z => decide (-50000 ≤ z) && decide (z ≤ 50000)

/-- Whether the generation value lies in its valid range (R28). -/
def genInRange (v : Option Nat) : Bool :=
  match v with
  | none => true
  | some n => decide (n ≤ 50000)

/-- What an accepted frame decodes to under a map: fault marker and values; a fault frame delivers none of its values
(R28, R35). -/
structure Decoded where
  a : Option Int
  b : Option Int
  c : Option Int
  gen : Option Nat
  voltA : Bool
  voltB : Bool
  voltC : Bool
  fault : Bool
deriving DecidableEq, Repr

/-- Decoding under a map (R27, R28, R35). -/
def decodeFrame (m : SlotMap) (slots : List Byte) : Decoded :=
  let va := headerBit slots 0
  let vb := headerBit slots 1
  let vc := headerBit slots 2
  let a := phaseValue m slots .phaseA va
  let b := phaseValue m slots .phaseB vb
  let c := phaseValue m slots .phaseC vc
  let g := genValue m slots
  let fault := headerBit slots 3 || !(phaseInRange a && phaseInRange b && phaseInRange c && genInRange g)
  ⟨a, b, c, g, va, vb, vc, fault⟩

/-- The Epoch Increment of a decoded frame (R35, R36). -/
def Decoded.increment (d : Decoded) (missed : Nat) : Increment :=
  if d.fault then ⟨d.a.map fun _ => 0, d.b.map fun _ => 0, d.c.map fun _ => 0, none, missed, true⟩
  else ⟨d.a, d.b, d.c, d.gen, missed, false⟩

/-- The live values of a decoded frame (R35, R36). -/
def Decoded.live (d : Decoded) : Live :=
  if d.fault then ⟨none, none, none, none, d.voltA, d.voltB, d.voltC, true⟩
  else ⟨d.a, d.b, d.c, d.gen, d.voltA, d.voltB, d.voltC, false⟩

/-! ## Sequence and acceptance (section 2.3) -/

/-- The missed total of a gap in LOST: whole seconds since the last acceptance, minus 1; 0 with no such moment (R31). -/
def Mfp.gapTotal (m : Mfp) : Nat :=
  match m.lastAccept with
  | none => 0
  | some t => (m.timer - t) / 1000 - 1

/-- The judgement of a taken frame (R29 to R31): the missed count of its increment when it is accepted, none when it is
discarded. -/
def Mfp.judge (m : Mfp) (seq : Nat) : Option Nat :=
  match m.port with
  | .idle => some 0
  | .lost => some (m.gapTotal - m.reported)
  | .locked =>
    if m.rebase then some 0
    else match m.expected with
      | none => some 0
      | some e =>
        let offset := (seq + 16 - e) % 16
        if offset ≤ 3 then some (offset - m.reported) else none

/-- A due pending map becomes current before an accepted frame is decoded (R38). -/
def Mfp.switched (m : Mfp) : Mfp :=
  if m.switchDue then { m with map := m.pendingMap.getD m.map, pendingMap := none, switchDue := false } else m

/-- MFP after the delivery of an accepted frame (R36). -/
def Mfp.accepted (m : Mfp) (seq : Nat) (d : Decoded) : Mfp :=
  { m with
    port := .locked
    rebase := false
    expected := some ((seq + 1) % 16)
    lastAccept := some m.timer
    deadline := some (m.timer + Config.firstDeadlineMs)
    misses := 0
    reported := 0
    live := some d.live }

/-- MFP reports a port state to ECU (R34). -/
def State.sendEcu (s : State) (m : EcuMail) : State := s.setMail { s.mail with ecuMfp := s.mail.ecuMfp ++ [m] }

/-- MFP's report on a change of its port state: to ECU, and MEASUREMENT_LOST to the ports when it enters or leaves LOST
(R34). -/
def State.reportPort (s : State) (was now : MfpState) : State :=
  if was = now then s
  else
    let s1 := s.sendEcu (.port now)
    if now = .lost then (s1.report .ulk .measurementLost true).report .slk .measurementLost true
    else if was = .lost then (s1.report .ulk .measurementLost false).report .slk .measurementLost false
    else s1

/-- MFP delivers an Epoch Increment to NAU and to ECU (R36). -/
def State.deliver (s : State) (inc : Increment) : State :=
  (s.setMail { s.mail with nauEpochs := s.mail.nauEpochs ++ [inc] }).sendEcu (.epoch inc)

/-- MFP takes a frame that passed its check (R29 to R31, R35, R36, R38): the state report first, then the increment. -/
def State.takeFrame (s : State) (slots : List Byte) : State :=
  let seq := headerSeq slots
  match s.mfp.judge seq with
  | none => s.setMfp { s.mfp with rebase := true }
  | some missed =>
    let m := s.mfp.switched
    let d := decodeFrame m.map slots
    ((s.reportPort s.mfp.port .locked).deliver (d.increment missed)).setMfp (m.accepted seq d)

/-- MFP receives bytes: each frame it collects whose length and check are good is taken, in order (R26, R211). -/
def State.receive (s : State) (bytes : List Byte) : State :=
  let r := collect 0xA5#8 frameExtent s.mfp.collecting bytes
  (r.2.filterMap parseMeasurement).foldl State.takeFrame (s.setMfp { s.mfp with collecting := r.1 })

/-- MEASUREMENT_FRAME (R26, R39, R211): the bytes of an arriving frame, taken in MAINS and dropped otherwise. -/
def execMeasurementFrame (bytes : List Byte) (s : State) : Host.Outcome State Fault Refusal :=
  .next (if s.onMains then s.receive bytes else s)

/-! ## The frame deadline (R32, R33) -/

/-- MFP takes an expiry of the deadline at the moment d. -/
def State.missEpoch (s : State) (d : Nat) : State :=
  let m := s.mfp
  let lost := m.port = .lost
  let misses := if lost then m.misses else min 3 (m.misses + 1)
  let port := if misses = 3 then .lost else m.port
  let s1 := s.setMail { s.mail with ipuEnergy := s.mail.ipuEnergy ++ [.missed] }
  (s1.reportPort m.port port).setMfp
    { m with
      port := port
      misses := misses
      reported := satAdd 65535 m.reported 1
      timer := max m.timer d
      deadline := some (d + Config.nextDeadlineMs) }

/-- The frame deadline expires, where one is armed (R32, R33, R39). -/
def State.expireDeadline (s : State) : State :=
  match s.mfp.deadline with
  | some d => if s.onMains then s.missEpoch d else s
  | none => s

/-- FRAME_DEADLINE_EXPIRY (R32, R33, R39): the deadline's moment has come; none is armed outside MAINS. -/
def execFrameDeadlineExpiry (s : State) : Host.Outcome State Fault Refusal := .next s.expireDeadline

/-! ## The slot map (R37, R38) -/

/-- Whether no phase or GEN role is held by more than one slot (R28, R37). -/
def SlotMap.distinctRoles (m : SlotMap) : Bool :=
  [Role.phaseA, .phaseB, .phaseC, .gen].all fun r => decide ((m.toList.filter fun x => x == r).length ≤ 1)

/-- Whether a map holds a phase role (R169). -/
def SlotMap.hasPhase (m : SlotMap) : Bool := m.toList.any fun r => r == .phaseA || r == .phaseB || r == .phaseC

/-- MFP judges a slot-map write (R37). -/
def State.writeSlotMap (value : List Byte) (o : Origin) (s : State) : State :=
  match readRoles value with
  | some m => if m.distinctRoles then s.enqueue (.config (.slotMap m) o) [] else s.reply o .badArgument []
  | none => s.reply o .badArgument []

/-- A port takes WRITE_CONFIG_SLOT_MAP (R37, R197): the payload is item code 1 and the value. -/
def serveWriteConfigSlotMap (p : PortId) (tag : Byte) (value : List Byte) (s : State) : State :=
  s.serve p 0x11 tag (1 :: value) (value.length == 7) (fun o t => t.writeSlotMap value o)

/-- MFP takes a completed map write: the pending map, or none when it equals the current one; switch due is cleared (R37). -/
def Mfp.takeMap (m : Mfp) (x : SlotMap) : Mfp :=
  { m with pendingMap := if x = m.map then none else some x, switchDue := false }

/-- SLOT_MAP_WRITE_COMPLETION (R37): completed, or refused with STORE_FAULT. -/
def execSlotMapWriteCompletion (s : State) : Host.Outcome State Fault Refusal :=
  .next
    (match s.takeStore .mfp with
    | some (⟨.config (.slotMap x) o, .completed, _, _⟩, t) => (t.setMfp (t.mfp.takeMap x)).reply o .ok []
    | some (⟨.config (.slotMap _) o, .refused, _, _⟩, t) => t.reply o .storeFault []
    | _ => s)

/-- MFP_INTERVAL_CLOSE (R38): a close sets switch due when a pending map is held. DESIGN CHOICE (log 32): MFP, inactive until
service, may take IPU's close of a saved interval while still in START, and a switch due set there stays at service entry;
R40 says that this close counts, and not when MFP takes it. -/
def execMfpIntervalClose (s : State) : Host.Outcome State Fault Refusal :=
  .next
    (if s.mail.mfpCloses = 0 then s
    else
      (s.setMail { s.mail with mfpCloses := s.mail.mfpCloses - 1 }).setMfp
        { s.mfp with switchDue := s.mfp.switchDue || s.mfp.pendingMap.isSome })

/-! ## Supply (R39) -/

/-- MFP at the entry to HOLDUP: the deadline disarmed, and a frame under collection dropped, since none is taken (R39). -/
def Mfp.heldUp (m : Mfp) : Mfp := { m with deadline := none, collecting := [] }

/-- MFP at a return from HOLDUP without a restore, and at service entry: IDLE, the deadline armed 1.5 s ahead (R39, R40). -/
def Mfp.resumed (m : Mfp) : Mfp :=
  { m with
    port := .idle
    expected := none
    rebase := false
    misses := 0
    reported := 0
    lastAccept := none
    live := none
    collecting := []
    deadline := some (m.timer + Config.firstDeadlineMs) }

end Sys2Proof.Machine
end

