-- ==== Sys2Proof/Machine/Array.lean ====
section
/-! DEFINITION. The Durable Store Controller's array (sections 8.1 to 8.6): programs and erases, grants and bursts, commit
images, verification and FAULT, the order of the hold-up commit. -/

namespace Sys2Proof.Machine

/-! ## The array (R152, R153, R157) -/

/-- A slot after a part of its record is programmed: the first part needs erased bytes, a later one a record begun. -/
def writePart {α : Type} (first : Bool) (w : Option (Written α)) : Option (Written α) :=
  match first, w with
  | true, none => some .torn
  | false, some .torn => some .torn
  | _, _ => none

/-- A slot after its completion marker is programmed: valid (R153, R212). -/
def writeMarker {α : Type} (x : α) (w : Option (Written α)) : Option (Written α) :=
  match w with
  | some .torn => some (.whole x)
  | _ => none

/-- A slot after a record without a marker is programmed. -/
def writeWhole {α : Type} (x : α) (w : Option (Written α)) : Option (Written α) :=
  match w with
  | none => some (.whole x)
  | some _ => none

/-- A lifecycle mark's body: a fixed value, which the same data over itself only completes (R157, R169, log 10). -/
def writeMark (w : Option (Written Unit)) : Option (Written Unit) :=
  match w with
  | none => some .torn
  | some x => some x

/-- A region after a program of one slot; none when it finds bytes it may not program. -/
def Region.program {α : Type} (r : Region α) (n : Nat) (f : Option (Written α) → Option (Written α)) :
    Option (Region α) :=
  (f (r.lookup n)).map fun w => r.put n w

/-- A calendar sector of the array. -/
def Store.calendar (st : Store) (sector : Nat) : CalendarSector := if sector = 3 then st.calendar3 else st.calendar4

/-- The array with a calendar sector replaced. -/
def Store.setCalendar (st : Store) (sector : Nat) (c : CalendarSector) : Store :=
  if sector = 3 then { st with calendar3 := c } else { st with calendar4 := c }

/-- A calendar sector with its record programmed. -/
def Store.programCalendar (st : Store) (sector : Nat)
    (f : Option (Written CalendarRecord) → Option (Written CalendarRecord)) : Option Store :=
  (f (st.calendar sector).record).map fun w => st.setCalendar sector { st.calendar sector with record := some w }

/-- The array after a program that verifies; none when bytes it programs are not erased (R153). DESIGN CHOICE (log 31): the
activation mark is one program without a completion marker of its own (R153's list omits it, R212 does not), and a new mark
program over a partly programmed mark page finds bytes that are not erased and fails, where R157 could let the same data
complete them. -/
def Store.program (st : Store) (p : Program) : Option Store :=
  match p with
  | .configBody page => (st.config.program page (writePart true)).map fun r => { st with config := r }
  | .configMarker page x => (st.config.program page (writeMarker x)).map fun r => { st with config := r }
  | .calendarBody sector part => st.programCalendar sector (writePart (part == 0))
  | .calendarMarker sector x => st.programCalendar sector (writeMarker x)
  | .activationMark sector =>
    (writeWhole () (st.calendar sector).mark).map fun w =>
      st.setCalendar sector { st.calendar sector with mark := some w }
  | .frozenBody slot => (st.frozen.program slot (writePart true)).map fun r => { st with frozen := r }
  | .frozenMarker slot x => (st.frozen.program slot (writeMarker x)).map fun r => { st with frozen := r }
  | .imagePage slot page => (st.images.program slot (writePart (page == 0))).map fun r => { st with images := r }
  | .imageMarker slot x => (st.images.program slot (writeMarker x)).map fun r => { st with images := r }
  | .intervalRecord slot x => (st.profile.program slot (writeWhole x)).map fun r => { st with profile := r }
  | .lifecycleBody page => (st.marks.program page writeMark).map fun r => { st with marks := r }
  | .lifecycleMarker page =>
    (st.marks.program page fun w => w.map fun _ => .whole ()).map fun r => { st with marks := r }

/-- A region with one erased slot marked as partly programmed. -/
def Region.tear {α : Type} (r : Region α) (n : Nat) : Region α :=
  match r.lookup n with
  | none => r.put n .torn
  | some _ => r

/-- The array after a program that failed: an erased slot is partly programmed, any other stays as it was (R158, log 10). -/
def Store.tear (st : Store) (p : Program) : Store :=
  match p with
  | .configBody page | .configMarker page _ => { st with config := st.config.tear page }
  | .calendarBody sector _ | .calendarMarker sector _ =>
    st.setCalendar sector { st.calendar sector with record := some ((st.calendar sector).record.getD .torn) }
  | .activationMark sector =>
    st.setCalendar sector { st.calendar sector with mark := some ((st.calendar sector).mark.getD .torn) }
  | .frozenBody slot | .frozenMarker slot _ => { st with frozen := st.frozen.tear slot }
  | .imagePage slot _ | .imageMarker slot _ => { st with images := st.images.tear slot }
  | .intervalRecord slot _ => { st with profile := st.profile.tear slot }
  | .lifecycleBody page | .lifecycleMarker page => { st with marks := st.marks.tear page }

/-- The array after an erase of a sector; sector 0 is never erased (R152, R153). -/
def Store.erase (st : Store) (sector : Nat) : Store :=
  if sector = 1 ∨ sector = 2 then
    { st with config := st.config.eraseRange ((sector - 1) * 16) ((sector - 1) * 16 + 16) }
  else if sector = 3 ∨ sector = 4 then st.setCalendar sector ⟨none, none⟩
  else if sector = 5 ∨ sector = 6 then
    { st with frozen := st.frozen.eraseRange ((sector - 5) * 16) ((sector - 5) * 16 + 16) }
  else if 7 ≤ sector ∧ sector ≤ 14 then
    { st with images := st.images.eraseRange ((sector - 7) * 4) ((sector - 7) * 4 + 4) }
  else if 15 ≤ sector ∧ sector ≤ 47 then
    { st with profile := st.profile.eraseRange ((sector - 15) * 128) ((sector - 15) * 128 + 128) }
  else st

/-! ## Operations an event interrupts (R175, R183, R190, log 11) -/

/-- What the n-th interrupted erase left of one slot that was not erased. -/
def remnantOf {α : Type} (n k : Nat) (w : Written α) : Option (Written α) :=
  match Config.remnant n k with
  | .untouched => some w
  | .finished => none
  | .torn => some .torn

/-- A region after the n-th interrupted operation was an erase of its slots lo to hi - 1. -/
def Region.eraseCut {α : Type} (r : Region α) (n lo hi : Nat) : Region α :=
  r.filterMap fun e =>
    if lo ≤ e.1 ∧ e.1 < hi then (remnantOf n e.1 e.2).map fun w => (e.1, w) else some e

/-- The array after the n-th interrupted operation was an erase of a sector. -/
def Store.eraseCut (st : Store) (n sector : Nat) : Store :=
  if sector = 1 ∨ sector = 2 then
    { st with config := st.config.eraseCut n ((sector - 1) * 16) ((sector - 1) * 16 + 16) }
  else if sector = 3 ∨ sector = 4 then
    st.setCalendar sector
      ⟨(st.calendar sector).record.bind (remnantOf n 0), (st.calendar sector).mark.bind (remnantOf n 1)⟩
  else if sector = 5 ∨ sector = 6 then
    { st with frozen := st.frozen.eraseCut n ((sector - 5) * 16) ((sector - 5) * 16 + 16) }
  else if 7 ≤ sector ∧ sector ≤ 14 then
    { st with images := st.images.eraseCut n ((sector - 7) * 4) ((sector - 7) * 4 + 4) }
  else if 15 ≤ sector ∧ sector ≤ 47 then
    { st with profile := st.profile.eraseCut n ((sector - 15) * 128) ((sector - 15) * 128 + 128) }
  else st

/-- The array after the n-th interrupted operation. -/
def Store.cut (st : Store) (n : Nat) (op : ArrayOp) : Store :=
  match op with
  | .program p =>
    match Config.remnant n 0 with
    | .untouched => st
    | .finished => (st.program p).getD st
    | .torn => st.tear p
  | .erase sector => st.eraseCut n sector
  | .readRecords _ | .readFrozen _ => st

/-- The operation in flight and a suspended erase stop where they stand. -/
def State.cutOperations (s : State) : State :=
  let n := s.freeIndex
  let st1 :=
    match s.dsc.inFlight with
    | some x => s.store.cut n x.op
    | none => s.store
  let st2 :=
    match s.dsc.suspended with
    | some x => st1.cut (n + 1) x.op
    | none => st1
  (s.setStore st2).setFreeIndex (n + 2)

/-! ## Requests (R155, R156) -/

/-- The request with an id. -/
def Dsc.request (d : Dsc) (id : Nat) : Option StoreRequest := d.queue.find? fun r => r.id == id

/-- DSC with one request changed. -/
def Dsc.mapRequest (d : Dsc) (id : Nat) (f : StoreRequest → StoreRequest) : Dsc :=
  { d with queue := d.queue.map fun r => if r.id = id then f r else r }

/-- DSC with one request gone. -/
def Dsc.dropRequest (d : Dsc) (id : Nat) : Dsc := { d with queue := d.queue.filter fun r => r.id != id }

/-- Whether an erase's client is told of its start: IPU and BFU, for their erase-aheads (R156). -/
def Client.toldOfErase : Client → Bool
  | .profileErase _ | .frozenErase _ => true
  | .holdup | .routineImage | .commandedImage _ | .imageErase | .frozenWrite | .append | .calendarErase _
  | .calendarWrite _ _ | .calendarMark | .config _ _ | .lengthWrite _ _ _ | .lengthRestore _ _ | .lifecycleMark _
  | .profileRead _ _ _ | .frozenRead _ _ => false

/-- DSC starts the next operation of a request; an erase's start is told to its client (R156). -/
def State.startNext (s : State) (r : StoreRequest) : State :=
  match r.ops with
  | [] => s
  | op :: _ =>
    let s1 := s.setDsc { s.dsc with inFlight := some ⟨r.id, op⟩ }
    match op with
    | .erase _ => if r.client.toldOfErase then s1.sendStore ⟨r.client, .granted, [], none⟩ else s1
    | .program _ | .readRecords _ | .readFrozen _ => s1

/-- The configuration record a write builds from the record held (R166). -/
def ConfigRecord.put (c : ConfigRecord) (w : ConfigWrite) : ConfigRecord :=
  let c1 := { c with seq := c.seq + 1 }
  match w with
  | .slotMap m => { c1 with map := m }
  | .netting m => { c1 with mode := m }
  | .length v => { c1 with length := v }
  | .billingDay v => { c1 with billingDay := v }
  | .staticLimit v => { c1 with ecu := { c1.ecu with staticLimit := v } }
  | .tolerance v => { c1 with ecu := { c1.ecu with tolerance := v } }
  | .grace v => { c1 with ecu := { c1.ecu with grace := v } }
  | .ackTime v => { c1 with ecu := { c1.ecu with ackTime := v } }
  | .minOpen v => { c1 with ecu := { c1.ecu with minOpen := v } }
  | .utilityThreshold v => { c1 with utilityThreshold := v }
  | .siteThreshold v => { c1 with siteThreshold := v }
  | .protection level lock => { c1 with level := level, lock := lock }

/-- What a configuration request writes. -/
def Client.configItem : Client → Option ConfigWrite
  | .config w _ => some w
  | .lengthWrite v _ _ => some (.length v)
  | .lengthRestore v _ => some (.length v)
  | .holdup | .routineImage | .commandedImage _ | .imageErase | .frozenWrite | .frozenErase _ | .append | .profileErase _
  | .calendarErase _ | .calendarWrite _ _ | .calendarMark | .lifecycleMark _ | .profileRead _ _ _ | .frozenRead _ _ => none

/-- The page the next configuration record goes to, and the sector to erase first (R166). -/
def State.configPage (s : State) : Nat × Option Nat :=
  match s.dsc.lastPage with
  | none => (0, if s.store.config.erasedIn 0 16 then none else some 1)
  | some p =>
    if p % 16 = 15 then
      let page := (p + 1) % 32
      (page, some (1 + page / 16))
    else (p + 1, none)

/-- The operations of a configuration write (R166). -/
def configOps (page : Nat) (eraseFirst : Option Nat) (x : ConfigRecord) : List ArrayOp :=
  (match eraseFirst with
    | some sector => [.erase sector]
    | none => [])
  ++ [.program (.configBody page), .program (.configMarker page x)]

/-- DSC builds a configuration request at its first grant (R166). -/
def State.buildConfig (s : State) (r : StoreRequest) (w : ConfigWrite) : State :=
  let pe := s.configPage
  let r1 := { r with ops := configOps pe.1 pe.2 (s.dsc.held.put w), built := true }
  let d := s.dsc.mapRequest r.id fun _ => r1
  (s.setDsc { d with lastPage := some pe.1 }).startNext r1

/-! ## Commit images (R161 to R165) -/

/-- The cause a request's image carries (R162). -/
def Client.imageCause : Client → ImageCause
  | .holdup => .holdup
  | .commandedImage _ => .commanded
  | .routineImage | .imageErase | .frozenWrite | .frozenErase _ | .append | .profileErase _ | .calendarErase _
  | .calendarWrite _ _ | .calendarMark | .config _ _ | .lengthWrite _ _ _ | .lengthRestore _ _ | .lifecycleMark _
  | .profileRead _ _ _ | .frozenRead _ _ => .routine

/-- DSC begins to build an image: the image-wanted flag is cleared and the units' parts are taken (R161, R163). -/
def State.beginGather (s : State) (r : StoreRequest) : State :=
  s.setDsc
    { s.dsc with
      imageWanted := false
      gather := some ⟨r.id, r.client.imageCause, none, none, none, none, none, none, none, none⟩ }

/-- The next image slot advances; past a sector's last slot DSC requests the erase-ahead of the next sector (R164). -/
def State.advanceSlot (s : State) : State :=
  let next := (s.dsc.nextSlot + 1) % 32
  if next % 4 = 0 then
    (s.setDsc { s.dsc with nextSlot := next, awaitsErase := true }).enqueue .imageErase [.erase (7 + next / 4)]
  else s.setDsc { s.dsc with nextSlot := next }

/-- DSC tells SSV how the hold-up commit ended (R161, R181). -/
def State.reportHoldup (s : State) (ok : Bool) (seq : Nat) : State :=
  s.setMail { s.mail with ssv := s.mail.ssv ++ [.holdupEnd ok seq] }

/-- An image that cannot be built because the last sequence has been given ends at once (R165, log 19). -/
def State.endUnbuilt (s : State) (r : StoreRequest) : State :=
  let s1 := s.setDsc { (s.dsc.dropRequest r.id) with grant := none }
  if r.client = .holdup then s1.reportHoldup false s.dsc.nextSeq else s1.refuseClient r.client

/-- DSC runs an image request at its first grant; the hold-up commit erases the sector itself where it must (R161, R163). -/
def State.startImage (s : State) (r : StoreRequest) : State :=
  if s.dsc.seqSpent then s.endUnbuilt r
  else if r.client = .holdup ∧ s.dsc.awaitsErase = true then
    let r1 := { r with ops := [.erase (7 + s.dsc.nextSlot / 4)] }
    (s.setDsc (s.dsc.mapRequest r.id fun _ => r1)).startNext r1
  else s.beginGather r

/-- DSC runs a granted request: what it builds first, then its next operation. -/
def State.runRequest (s : State) (r : StoreRequest) : State :=
  if r.built then s.startNext r
  else if r.client.isImage then s.startImage r
  else match r.client.configItem with
    | some w => s.buildConfig r w
    | none => s.startNext r

/-- Whether a request is an append or an erase-ahead, which a restart leaves to service (R188); in the write step BFU's erase
comes first (R122). -/
def Client.runsInService (c : Client) (writeStep : Bool) : Bool :=
  match c with
  | .append | .profileErase _ | .imageErase => true
  | .frozenErase _ => !writeStep
  | .holdup | .routineImage | .commandedImage _ | .frozenWrite | .calendarErase _ | .calendarWrite _ _ | .calendarMark
  | .config _ _ | .lengthWrite _ _ _ | .lengthRestore _ _ | .lifecycleMark _ | .profileRead _ _ _ | .frozenRead _ _ => false

/-- Whether a request may be granted: in HOLDUP the hold-up commit alone; in START no append and no erase-ahead; no routine or
commanded image while the next slot's sector awaits its erase (R161, R164, R188). In START a request behind one that is held
back may be granted before it (DESIGN CHOICE, log 31). -/
def State.grantable (s : State) (r : StoreRequest) : Bool :=
  match s.ssv.supply with
  | .holdup => r.client == .holdup
  | .start => !r.client.runsInService s.ssv.writeStep && !(s.dsc.awaitsErase && r.client.isServiceImage)
  | .mains | .backup => !(s.dsc.awaitsErase && r.client.isServiceImage)

/-- Whether DSC may grant: nothing in flight, no burst under way, and no erase suspended but in HOLDUP (R156, R160). -/
def State.arrayFree (s : State) : Bool :=
  s.dsc.inFlight.isNone && s.dsc.grant.isNone && (s.dsc.suspended.isNone || s.ssv.supply == .holdup)

/-- DSC grants the array to the first request that may have it (R156). -/
def State.grantArray (s : State) : State :=
  if s.arrayFree then
    match s.dsc.queue.find? fun r => s.grantable r with
    | some r => (s.setDsc { s.dsc with grant := some ⟨r.id, 0⟩ }).runRequest r
    | none => s
  else s

/-- ARRAY_GRANT (R156). -/
def execArrayGrant (s : State) : Host.Outcome State Fault Refusal := .next s.grantArray

/-- MFP's part (R41). -/
def Mfp.part (m : Mfp) : MfpPart := ⟨m.map, m.pendingMap⟩

/-- CCK's part (R55). -/
def Cck.part (c : Cck) : CckPart := ⟨c.time, c.valid, c.gen⟩

/-- TCU's part (R77). -/
def Tcu.part (u : Tcu) : TcuPart := ⟨u.active.map fun r => r.seq, u.discarded, u.nextSeq⟩

/-- IPU's part (R104). An image built in START before IPU's resumption may find no interval open, and holds none (DESIGN
CHOICE, log 32). That the last append number has been given goes into the part, though R104 does not list it (DESIGN CHOICE,
log 30). -/
def Ipu.part (u : Ipu) : IpuPart :=
  { interval := u.interval, length := u.length, pendingLength := u.pendingLength,
    utilityThreshold := u.utility.threshold, siteThreshold := u.site.threshold, nextNumber := u.nextNumber,
    numbersSpent := u.numbersSpent, calendarHold := u.calendarHold, supplyMark := u.supplyMark, queue := u.queue,
    utilityCursor := u.utility.cursor, utilitySkip := u.utility.skip, siteCursor := u.site.cursor,
    siteSkip := u.site.skip }

/-- BFU's part (R121). -/
def Bfu.part (b : Bfu) : BfuPart := ⟨b.billingDay, b.captured, b.deferred, b.counter, b.lastDate⟩

/-- ECU's part (R149). -/
def Ecu.part (e : Ecu) : EcuPart :=
  { list := e.list, nextSeq := e.nextSeq, config := e.config, notice := e.notice, noticeLimit := e.noticeLimit,
    handshake := e.handshake, settled := e.settled, interlock := e.interlock, cause := e.cause, hold := e.hold }

/-- A part already given is kept. -/
def keepPart {α : Type} (given : Option α) (now : α) : Option α := some (given.getD now)

/-- The gather with one unit's part taken as the unit holds it now (R161, R162). -/
def Gather.take (g : Gather) (s : State) (u : UnitId) : Gather :=
  match u with
  | .nau => { g with nau := keepPart g.nau s.nau }
  | .mfp => { g with mfp := keepPart g.mfp s.mfp.part }
  | .cck => { g with cck := keepPart g.cck s.cck.part }
  | .tcu => { g with tcu := keepPart g.tcu s.tcu.part }
  | .ipu => { g with ipu := keepPart g.ipu s.ipu.part }
  | .bfu => { g with bfu := keepPart g.bfu s.bfu.part }
  | .ecu => { g with ecu := keepPart g.ecu s.ecu.part }
  | .cvm => { g with tamper := keepPart g.tamper s.cvm.tamper }

/-- The image of a gather whose parts have all been given, under a sequence (R162). -/
def Gather.image (g : Gather) (seq : Nat) : Option CommitImage :=
  match g.nau, g.mfp, g.cck, g.tcu, g.ipu, g.bfu, g.ecu, g.tamper with
  | some nau, some mfp, some cck, some tcu, some ipu, some bfu, some ecu, some tamper =>
    some ⟨seq, g.cause, nau, mfp, cck, tcu, ipu, bfu, ecu, tamper⟩
  | _, _, _, _, _, _, _, _ => none

/-- The five programs of an image (R161, R163). -/
def imageOps (slot : Nat) (x : CommitImage) : List ArrayOp :=
  [.program (.imagePage slot 0), .program (.imagePage slot 1), .program (.imagePage slot 2),
    .program (.imagePage slot 3), .program (.imageMarker slot x)]

/-- The image takes the next sequence and its programs begin; SSV is told a hold-up image's sequence (R161, R163, R181). -/
def State.buildImage (s : State) (g : Gather) (x : CommitImage) : State :=
  match s.dsc.request g.request with
  | none => s.setDsc { s.dsc with gather := none }
  | some r =>
    let r1 := { r with ops := imageOps s.dsc.nextSlot x, built := true }
    let d := s.dsc.mapRequest r.id fun _ => r1
    let s1 := s.setDsc
      { d with
        gather := none
        nextSeq := if x.seq = Config.maxSequence then x.seq else x.seq + 1
        seqSpent := x.seq == Config.maxSequence }
    let s2 := if x.cause = .holdup then s1.setSsv { s1.ssv with record := .numbered x.seq } else s1
    s2.startNext r1

/-- A unit gives DSC its part; the last part builds the image (R161 to R163). -/
def State.takePart (s : State) (u : UnitId) : State :=
  match s.dsc.gather with
  | none => s
  | some g =>
    let g1 := g.take s u
    match g1.image s.dsc.nextSeq with
    | some x => s.buildImage g1 x
    | none => s.setDsc { s.dsc with gather := some g1 }

/-- UNIT_IMAGE_PART (R162). -/
def execUnitImagePart (u : UnitId) (s : State) : Host.Outcome State Fault Refusal := .next (s.takePart u)

/-! ## Completion and failure (R153, R156 to R158) -/

/-- The image sequence in a request's remaining marker. -/
def markerSeq (ops : List ArrayOp) : Option Nat :=
  ops.findSome? fun op =>
    match op with
    | .program (.imageMarker _ x) => some x.seq
    | _ => none

/-- DSC reports a request's end to its client, and does what follows an image or an image-region erase (R156, R161, R163,
R164). `seq` is the sequence of the image the request wrote. -/
def State.finishRequest (s : State) (r : StoreRequest) (seq : Option Nat) : State :=
  match r.client with
  | .holdup => (s.reportHoldup true (seq.getD 0)).advanceSlot
  | .routineImage => s.advanceSlot.placeRoutine
  | .commandedImage o =>
    (if r.dropped then s
      else s.setMail { s.mail with ssv := s.mail.ssv ++ [.commandedImage o true] }).advanceSlot.placeRoutine
  | .imageErase => s.setDsc { s.dsc with awaitsErase := false }
  | .calendarMark => s
  | .frozenWrite | .frozenErase _ | .append | .profileErase _ | .calendarErase _ | .calendarWrite _ _ | .config _ _
  | .lengthWrite _ _ _ | .lengthRestore _ _ | .lifecycleMark _ | .profileRead _ _ _ | .frozenRead _ _ =>
    s.sendStore ⟨r.client, .completed, r.records, r.set⟩

/-- The sector the hold-up commit erased itself no longer awaits an erase-ahead (R161, log 13). -/
def State.holdupErased (s : State) : State :=
  s.setDsc { s.dsc with awaitsErase := false, queue := s.dsc.queue.filter fun r => r.client != .imageErase }

/-- A request after one of its operations completed: its end, the next operation of its burst, or a new choice (R156). -/
def State.afterOperation (s : State) (r : StoreRequest) (op : ArrayOp) (used : Nat) : State :=
  let r1 := { r with ops := r.ops.drop 1 }
  let s1 := s.setDsc { (s.dsc.mapRequest r.id fun _ => r1) with inFlight := none }
  match r1.ops with
  | [] =>
    if r1.client = .holdup ∧ r1.built = false then
      (s1.holdupErased.setDsc { s1.holdupErased.dsc with grant := some ⟨r.id, used + 1⟩ }).beginGather r1
    else
      (s1.setDsc { (s1.dsc.dropRequest r.id) with grant := none }).finishRequest r1 (markerSeq [op])
  | _ :: _ =>
    if used + 1 < 4 then (s1.setDsc { s1.dsc with grant := some ⟨r.id, used + 1⟩ }).startNext r1
    else s1.setDsc { s1.dsc with grant := none }

/-- How many operations of the burst under way have run. -/
def Dsc.burst (d : Dsc) : Nat :=
  match d.grant with
  | some g => g.used
  | none => 4

/-- An operation completed; its request may have been refused while its erase was suspended (R160). -/
def State.operationDone (s : State) (x : InFlight) : State :=
  match s.dsc.request x.request with
  | some r => s.afterOperation r x.op s.dsc.burst
  | none => s.setDsc { s.dsc with inFlight := none, grant := none }

/-- The configuration record held after a program: a verified configuration marker makes its record the one held (R166). -/
def heldAfter (held : ConfigRecord) (p : Program) : ConfigRecord :=
  match p with
  | .configMarker _ x => x
  | .configBody _ | .calendarBody _ _ | .calendarMarker _ _ | .activationMark _ | .frozenBody _ | .frozenMarker _ _
  | .imagePage _ _ | .imageMarker _ _ | .intervalRecord _ _ | .lifecycleBody _ | .lifecycleMarker _ => held

/-- The store alarm set, with STORE_FAULT at the Utility Link and the Optical Port (R159). -/
def State.raiseAlarm (s : State) : State :=
  ((s.setDsc { s.dsc with alarm := true }).report .ulk .storeFault true).report .opt .storeFault true

/-- Whether a queued request survives FAULT: reads, and the hold-up commit (R155, R158). -/
def StoreRequest.survives (r : StoreRequest) : Bool := r.client.isRead || r.client == .holdup

/-- The end of the request whose program failed: refused to its client; the hold-up commit failed; an image's slot is passed
(R158, R161, R164). -/
def State.failRequest (s : State) (r : StoreRequest) : State :=
  if r.client = .holdup then (s.reportHoldup false ((markerSeq r.ops).getD 0)).advanceSlot
  else if r.client.isImage then (if r.dropped then s else s.refuseClient r.client).advanceSlot
  else s.refuseClient r.client

/-- A failed program puts the store into FAULT (R158). -/
def State.enterFault (s : State) (x : InFlight) : State :=
  let failed := s.dsc.request x.request
  let s1 := s.setDsc { (s.dsc.dropRequest x.request) with fault := true, inFlight := none, grant := none }
  let s2 :=
    match failed with
    | some r => s1.failRequest r
    | none => s1
  let s3 := (s2.dsc.queue.filter fun r => !r.survives).foldl (fun t r => t.refuseClient r.client) s2
  (s3.setDsc { s3.dsc with queue := s3.dsc.queue.filter StoreRequest.survives }).raiseAlarm

/-- A program completes: verified at the first or second comparison, or failed (R157, R158). -/
def State.programDone (s : State) (x : InFlight) (p : Program) (r : ArrayResult) : State :=
  match r, s.store.program p with
  | .good, some st | .retried, some st =>
    ((s.setStore st).setDsc { s.dsc with held := heldAfter s.dsc.held p }).operationDone x
  | .good, none | .retried, none | .failed, _ => (s.setStore (s.store.tear p)).enterFault x

/-- The interval records valid in some slots, as stored (R98, log 21). -/
def Store.recordsAt (st : Store) (slots : List Nat) : List IntervalRecord :=
  slots.filterMap fun n =>
    match st.profile.lookup n with
    | some (.whole r) => some r
    | _ => none

/-- The array after a read: a frozen set whose check fails is no valid record from then on, so that the next scan leaves it
out (R119, R212). -/
def Store.readBack (st : Store) (op : ArrayOp) (r : ArrayResult) : Store :=
  match op, r with
  | .readFrozen slot, .failed =>
    match st.frozen.lookup slot with
    | some _ => { st with frozen := st.frozen.put slot .torn }
    | none => st
  | _, _ => st

/-- The frozen set in a slot, where its check passes (R119, log 10). -/
def Store.frozenAt (st : Store) (slot : Nat) (r : ArrayResult) : Option FrozenSet :=
  match st.frozen.lookup slot, r with
  | some (.whole f), .good | some (.whole f), .retried => some f
  | _, _ => none

/-- What DSC does when the operation on the array completes (R153, R156, R157). -/
def State.completeOperation (s : State) (x : InFlight) (r : ArrayResult) : State :=
  match x.op with
  | .program p => s.programDone x p r
  | .erase sector => (s.setStore (s.store.erase sector)).operationDone x
  | .readRecords slots =>
    (s.setDsc (s.dsc.mapRequest x.request fun q =>
      { q with records := q.records ++ s.store.recordsAt slots })).operationDone x
  | .readFrozen slot =>
    ((s.setStore (s.store.readBack x.op r)).setDsc
      (s.dsc.mapRequest x.request fun q => { q with set := s.store.frozenAt slot r })).operationDone x

/-- Whether DSC has reported the image of the pending RESTART complete, and SSV has not yet taken the report (R186). -/
def State.restartReported (s : State) : Bool :=
  match s.ssv.commanded with
  | some o => s.mail.ssv.contains (.commandedImage o true)
  | none => false

/-- OPERATION_COMPLETION (R153); nothing without an operation in flight. An operation that DSC starts after the completion of
the pending RESTART's image completes no more: it is lost with the restart (R186, log 33). -/
def execOperationCompletion (r : ArrayResult) (s : State) : Host.Outcome State Fault Refusal :=
  .next
    (if s.restartReported then s
    else
      match s.dsc.inFlight with
      | some x => s.completeOperation x r
      | none => s)

/-! ## The order of the hold-up commit (R160) -/

/-- Whether an erase of a sector runs on under the hold-up commit: the image region alone (R160). -/
def imageSector (sector : Nat) : Bool := decide (7 ≤ sector) && decide (sector ≤ 14)

/-- The operation in flight at the order: a read abandoned, an erase outside the image region suspended, any other left to
complete with its burst at an end (R160). -/
def Dsc.interrupt (d : Dsc) : Dsc :=
  match d.inFlight with
  | none => { d with grant := none }
  | some x =>
    match x.op with
    | .program _ => { d with grant := some ⟨x.request, 4⟩ }
    | .erase sector =>
      if imageSector sector then { d with grant := some ⟨x.request, 4⟩ }
      else { d with inFlight := none, suspended := some x, grant := none }
    | .readRecords _ | .readFrozen _ => { d with inFlight := none, grant := none }

/-- Whether a request is a routine or commanded image whose programs were under way (R160). -/
def StoreRequest.underWay (r : StoreRequest) : Bool := r.client.isServiceImage && r.built

/-- Whether a request's operation is on the array. -/
def Dsc.running (d : Dsc) (id : Nat) : Bool :=
  match d.inFlight with
  | some x => x.request == id
  | none => false

/-- The queue after the order: reads removed; an image under way cut to its operation in flight, or removed (R160). DESIGN
CHOICE (log 12): an image whose marker is in flight counts as dropped too; the marker completes, and SSV is sent no report. -/
def Dsc.cutQueue (d : Dsc) : Dsc :=
  { d with
    queue := d.queue.filterMap fun r =>
      if r.client.isRead then none
      else if r.underWay then
        if d.running r.id then some { r with ops := r.ops.take 1, dropped := true } else none
      else some r }

/-- Whether the order removes an image between its two bursts, whose slot is then passed (R160, R164). -/
def Dsc.cutsIdleImage (d : Dsc) : Bool := d.queue.any fun r => r.underWay && !d.running r.id

/-- DSC takes the order of the hold-up commit (R160); a build not yet complete is discarded (log 12). A routine image cut
between its bursts leaves the queue, so that a flag set since its build places another (R163). -/
def State.orderHoldup (s : State) : State :=
  let cut := s.dsc.cutsIdleImage
  let s1 := s.setDsc { s.dsc.cutQueue.interrupt with gather := none }
  let s2 := if cut then s1.advanceSlot.placeRoutine else s1
  (s2.enqueue .holdup []).grantArray

/-- DSC at the return to MAINS without a restore: a suspended erase resumes and completes before the next grant (R161,
R182). -/
def Dsc.returned (d : Dsc) : Dsc :=
  match d.suspended with
  | some x => { d with suspended := none, inFlight := some x, grant := some ⟨x.request, 4⟩ }
  | none => d

end Sys2Proof.Machine
end

