-- ==== Sys2Proof/Machine/Cover.lean ====
section
/-! DEFINITION. The Cover Monitor (section 8.9) and what DSC guards: protection, lifecycle, identity (sections 8.7, 8.8). -/

namespace Sys2Proof.Machine

/-! ## The cover (R171, R172, R195) -/

/-- Whether CVM samples the switch: on every supply, and in BACKUP while the cell keeps the retention mark (R171). -/
def State.samplesCover (s : State) : Bool :=
  match s.ssv.supply with
  | .start | .mains | .holdup => true
  | .backup => s.ssv.retention

/-- CVM's report to the Optical Port; in BACKUP the port holds nothing (R183, R195). -/
def State.tellOptical (s : State) (c : Cover) : State :=
  if s.ssv.supply = .backup then s else s.setMail { s.mail with optCover := s.mail.optCover ++ [c] }

/-- TAMPER at the Utility Link and the Optical Port (R172, R173); in BACKUP the ports hold nothing. -/
def State.reportTamper (s : State) (present : Bool) : State :=
  if s.ssv.supply = .backup then s else (s.report .ulk .tamper present).report .opt .tamper present

/-- CVM tells IPU of an opening in MAINS, or holds it (R172). -/
def State.openingToIpu (s : State) : State :=
  if s.onMains then s.setMail { s.mail with ipuTamper := s.mail.ipuTamper + 1 }
  else s.setCvm { s.cvm with unpowered := true }

/-- CVM takes an opening (R172). -/
def State.takeOpening (s : State) : State :=
  (((s.setCvm { s.cvm with cover := .opened, tamper := true }).openingToIpu).reportTamper true).tellOptical .opened

/-- CVM takes a closing (R171). -/
def State.takeClosing (s : State) : State := (s.setCvm { s.cvm with cover := .closed }).tellOptical .closed

/-- COVER_OPENING (R172): a change of the switch that CVM samples. -/
def execCoverOpening (s : State) : Host.Outcome State Fault Refusal :=
  .next
    (if s.coverSwitch = .opened then s
    else
      let t := s.setCoverSwitch .opened
      if s.samplesCover then t.takeOpening else t)

/-- COVER_CLOSING (R171): a change of the switch that CVM samples. -/
def execCoverClosing (s : State) : Host.Outcome State Fault Refusal :=
  .next
    (if s.coverSwitch = .closed then s
    else
      let t := s.setCoverSwitch .closed
      if s.samplesCover then t.takeClosing else t)

/-- The Optical Port after a cover report; a closing clears its write-enable latch (R195). -/
def Port.takeCover (x : Port) (c : Cover) : Port :=
  match c with
  | .opened => { x with coverView := .opened }
  | .closed => { x with coverView := .closed, writeEnable := false }

/-- PORT_COVER_REPORT (R195): the oldest report in transit. -/
def execPortCoverReport (s : State) : Host.Outcome State Fault Refusal :=
  .next
    (match s.mail.optCover with
    | c :: rest => (s.setMail { s.mail with optCover := rest }).setOpt (s.opt.takeCover c)
    | [] => s)

/-- CVM judges CLEAR_TAMPER (R173). -/
def State.clearTamper (o : Origin) (s : State) : State :=
  match s.cvm.cover with
  | .opened => s.reply o .coverOpen []
  | .closed => ((s.setCvm { s.cvm with tamper := false }).reportTamper false).reply o .ok []

/-- A port takes CLEAR_TAMPER (R173). -/
def serveClearTamper (p : PortId) (tag : Byte) (payload : List Byte) (s : State) : State :=
  s.serveWith p 0x74 tag payload (readEmpty payload) (fun _ => State.clearTamper)

/-- CVM reports an opening it holds, and clears its flag (R172, R174). -/
def State.reportHeldOpening (s : State) : State :=
  if s.cvm.unpowered then
    (s.setCvm { s.cvm with unpowered := false }).setMail { s.mail with ipuTamper := s.mail.ipuTamper + 1 }
  else s

/-- CVM_RESUMPTION (R174). -/
def execCvmResumption (s : State) : Host.Outcome State Fault Refusal :=
  .next
    (if s.ssv.resumed && s.ssv.owed.cvm then
      (s.setSsv { s.ssv with owed := { s.ssv.owed with cvm := false } }).reportHeldOpening
    else s)

/-! ## Protection (R167, R168) -/

/-- DSC judges SET_PROTECTION (R168). -/
def State.setProtection (f : Nat × Nat) (o : Origin) (s : State) : State :=
  if 3 < f.1 ∨ 1 < f.2 then s.reply o .badArgument []
  else if s.dsc.lock ∧ s.cvm.cover = .closed then s.reply o .locked []
  else s.enqueue (.config (.protection f.1 (f.2 == 1)) o) []

/-- A port takes SET_PROTECTION (R168). -/
def serveSetProtection (p : PortId) (tag : Byte) (payload : List Byte) (s : State) : State :=
  s.serveWith p 0x71 tag payload (readProtection payload) State.setProtection

/-- PROTECTION_WRITE_COMPLETION (R168): completed, or refused with STORE_FAULT. -/
def execProtectionWriteCompletion (s : State) : Host.Outcome State Fault Refusal :=
  .next
    (match s.takeStore .dsc with
    | some (⟨.config (.protection level lock) o, .completed, _, _⟩, t) =>
      (t.setDsc { t.dsc with level := level, lock := lock }).reply o .ok []
    | some (⟨.config (.protection _ _) o, .refused, _, _⟩, t) => t.reply o .storeFault []
    | _ => s)

/-! ## Lifecycle and identity (R169, R170) -/

/-- The lowest erased mark slot (R169). -/
def Store.freeMark (st : Store) : Option Nat := (List.range' 1 15).find? fun n => (st.marks.lookup n).isNone

/-- DSC judges CLOSE_COMMISSIONING (R169). -/
def State.closeCommissioning (o : Origin) (s : State) : State :=
  if s.dsc.lifecycle = .inService then s.reply o .wrongLifecycle []
  else if !s.cck.valid then s.reply o .validationFailed (reasonBytes .clockUnset none)
  else if !s.mfp.map.hasPhase then s.reply o .validationFailed (reasonBytes .noPhaseMapped none)
  else match s.store.freeMark with
    | none => s.reply o .storeFault []
    | some n => s.enqueue (.lifecycleMark o) [.program (.lifecycleBody n), .program (.lifecycleMarker n)]

/-- A port takes CLOSE_COMMISSIONING (R169). -/
def serveCloseCommissioning (p : PortId) (tag : Byte) (payload : List Byte) (s : State) : State :=
  s.serveWith p 0x72 tag payload (readEmpty payload) (fun _ => State.closeCommissioning)

/-- LIFECYCLE_MARK_COMPLETION (R169): the marker verified, or the request refused with STORE_FAULT. -/
def execLifecycleMarkCompletion (s : State) : Host.Outcome State Fault Refusal :=
  .next
    (match s.takeStore .dsc with
    | some (⟨.lifecycleMark o, .completed, _, _⟩, t) =>
      (t.setDsc { t.dsc with lifecycle := .inService }).reply o .ok []
    | some (⟨.lifecycleMark o, .refused, _, _⟩, t) => t.reply o .storeFault []
    | _ => s)

/-- The signature byte (R170, R218). -/
def Lifecycle.signature : Lifecycle → Nat
  | .commissioning => 0xC3
  | .inService => 0x3C

/-- The answer of READ_IDENTITY (R170, R218). -/
def Dsc.identityBytes (d : Dsc) : List Byte :=
  (match d.identity with
    | some x => be 1 1 ++ be 8 x.serialNumber.toNat ++ be 2 x.revision.toNat
    | none => be 1 0 ++ be 8 0 ++ be 2 0)
  ++ be 1 d.lifecycle.code ++ be 1 d.lifecycle.signature

/-- DSC answers READ_IDENTITY (R170). -/
def State.answerIdentity (o : Origin) (s : State) : State := s.reply o .ok s.dsc.identityBytes

/-- A port takes READ_IDENTITY (R170). -/
def serveReadIdentity (p : PortId) (tag : Byte) (payload : List Byte) (s : State) : State :=
  s.serveWith p 0x73 tag payload (readEmpty payload) (fun _ => State.answerIdentity)

end Sys2Proof.Machine
end

