-- ==== Sys2Proof/Machine/Layout.lean ====
section
/-! DEFINITION. The bytes of the array's slots: erased bytes, the completion marker, the frozen-set page, the interval slot,
the commit image in its four pages, and the tests by which a slot is valid (R212 to R215). -/

namespace Sys2Proof.Machine

/-! ## Erased bytes, markers and checks (R212) -/

/-- Some erased bytes (R212). -/
def erasedBytes (n : Nat) : List Byte := List.replicate n 0xFF#8

/-- A completion marker: 16 bytes of 0x5A (R212). -/
def completionMarker : List Byte := List.replicate 16 0x5A#8

/-- Whether a slot or page reads 0xFF throughout (R212). -/
def readsErased (bytes : List Byte) : Bool := bytes.all fun b => b == 0xFF#8

/-- Whether the two bytes at a place are the check of every byte before it (R212). -/
def checkedUpTo (bytes : List Byte) (n : Nat) : Bool := (bytes.drop n).take 2 == crcBytes (bytes.take n)

/-- Whether a completion marker stands at a place (R212). -/
def markedAt (bytes : List Byte) (n : Nat) : Bool := (bytes.drop n).take 16 == completionMarker

/-- What a slot's bytes are: all erased, those of its record, or, partly programmed, bytes that depend on where the operation
stopped and that hold no valid record (R157, R158, log 9). -/
def slotBytes {α : Type} (size : Nat) (layout : α → List Byte) : Option (Written α) → Option (List Byte)
  | none => some (erasedBytes size)
  | some .torn => none
  | some (.whole x) => some (layout x)

/-! ## Interval record, 32 B (R213), and frozen-set page, 256 B (R214) -/

/-- Whether the 32 bytes of a profile slot are a valid interval record, which has no marker (R212, R213). -/
def validRecordSlot (bytes : List Byte) : Bool := checkedUpTo bytes 30

/-- The 256 bytes of a frozen-set page; the bytes between the check and the marker stay erased (R214, log 9). -/
def FrozenSet.page (f : FrozenSet) : List Byte := f.bytes ++ erasedBytes 42 ++ completionMarker

/-- Whether a page is a valid frozen set (R212, R214). -/
def validFrozenPage (bytes : List Byte) : Bool := checkedUpTo bytes 196 && markedAt bytes 240

/-! ## Commit image, four pages (R162, R215)

The spec gives the items of each part and not their bytes: each part is laid out here in the order in which its unit's rule
lists the items, an optional item behind a presence byte and a list behind its count (DESIGN CHOICE, log 9). -/

/-- The cause's code (R215). -/
def ImageCause.code : ImageCause → Nat
  | .routine => 0 | .holdup => 1 | .commanded => 2

/-- NAU's part (R19). -/
def Nau.partBytes (n : Nau) : List Byte :=
  n.table.regs.bytes ++ be 2 n.table.res.imp ++ be 2 n.table.res.exp ++ be 2 n.table.res.gen ++ n.table.demands.bytes
    ++ optBe 2 n.table.calendarId ++ be 1 n.mode.code ++ optBe 1 (n.pendingMode.map NettingMode.code)

/-- MFP's part (R41). -/
def MfpPart.bytes (m : MfpPart) : List Byte := m.map.bytes ++ pendingMapBytes m.pendingMap

/-- CCK's part (R55). -/
def CckPart.bytes (c : CckPart) : List Byte := be 4 c.time ++ be 1 (validityCode c.valid) ++ be 1 c.gen

/-- TCU's part (R77). -/
def TcuPart.bytes (u : TcuPart) : List Byte := optBe 4 u.activeSeq ++ be 4 u.discarded ++ be 4 u.nextSeq

/-- An open interval in IPU's part (R80, R104). -/
def OpenInterval.bytes (iv : OpenInterval) : List Byte :=
  be 4 iv.slotStart ++ be 4 iv.slotEnd ++ be 4 iv.start ++ be 1 iv.gen ++ be 1 iv.band ++ be 4 iv.imp ++ be 4 iv.exp
    ++ optBe 4 iv.generation ++ be 1 iv.missed ++ be 2 iv.flags.bits

/-- IPU's part (R104); the byte that says that the last append number has been given is the model's (DESIGN CHOICE, log 30). -/
def IpuPart.bytes (u : IpuPart) : List Byte :=
  (match u.interval with
    | some iv => be 1 1 ++ iv.bytes
    | none => be 1 0)
  ++ be 1 u.length ++ optBe 1 u.pendingLength ++ be 2 u.utilityThreshold ++ be 2 u.siteThreshold ++ be 4 u.nextNumber
    ++ flagByte u.numbersSpent ++ flagByte u.calendarHold ++ optBe 4 u.supplyMark ++ be 1 u.queue.length
    ++ u.queue.flatMap IntervalRecord.bytes ++ be 4 u.utilityCursor ++ be 2 u.utilitySkip ++ be 4 u.siteCursor
    ++ be 2 u.siteSkip

/-- BFU's part (R121). -/
def BfuPart.bytes (b : BfuPart) : List Byte :=
  be 1 b.billingDay
    ++ (match b.captured with
        | some f => be 1 1 ++ f.bytes
        | none => be 1 0)
    ++ flagByte b.deferred ++ be 4 b.counter ++ optDate b.lastDate

/-- ECU's part (R149). -/
def EcuPart.bytes (e : EcuPart) : List Byte :=
  be 1 e.list.length ++ (e.list.flatMap fun d => d.bytes false) ++ be 4 e.nextSeq ++ be 4 e.config.staticLimit
    ++ be 2 e.config.tolerance ++ be 1 e.config.grace ++ be 2 e.config.ackTime ++ be 2 e.config.minOpen ++ be 2 e.notice
    ++ be 4 e.noticeLimit ++ be 1 e.handshake.code ++ be 4 e.settled ++ be 1 e.interlock.code ++ be 1 e.cause.code
    ++ flagByte e.hold

/-- The eight parts in their order (R215). -/
def CommitImage.parts (x : CommitImage) : List (List Byte) :=
  [x.nau.partBytes, x.mfp.bytes, x.cck.bytes, x.tcu.bytes, x.ipu.bytes, x.bfu.bytes, x.ecu.bytes, flagByte x.tamper]

/-- A part behind its length in 2 B (R215). -/
def lengthAndPart (part : List Byte) : List Byte := be 2 part.length ++ part

/-- The image up to its check: sequence, cause, parts (R215). -/
def CommitImage.fields (x : CommitImage) : List Byte :=
  be 4 x.seq ++ be 1 x.cause.code ++ x.parts.flatMap lengthAndPart

/-- The image with its check (R215). -/
def CommitImage.bytes (x : CommitImage) : List Byte := x.fields ++ crcBytes x.fields

/-- The 1,024 bytes of an image slot: the image, erased bytes up to byte 1,007, the completion marker (R215). -/
def CommitImage.slot (x : CommitImage) : List Byte :=
  x.bytes ++ erasedBytes (1008 - x.bytes.length) ++ completionMarker

/-- The place after some parts, read by the length before each (R215). -/
def afterParts (bytes : List Byte) : (parts place : Nat) → Nat
  | 0, place => place
  | n + 1, place => afterParts bytes n (place + 2 + ofBe ((bytes.drop place).take 2))

/-- Whether the 1,024 bytes of an image slot are a valid image: the marker present, and the check after the eighth part good
(R162, R212, R215). -/
def validImageSlot (bytes : List Byte) : Bool :=
  let last := afterParts bytes 8 5
  decide (last + 2 ≤ 1008) && checkedUpTo bytes last && markedAt bytes 1008

/-! ## The array's slots as bytes (R152) -/

/-- The 32 bytes of a profile slot. -/
def Store.recordSlot (st : Store) (n : Nat) : Option (List Byte) := slotBytes 32 IntervalRecord.bytes (st.profile.lookup n)

/-- The 256 bytes of a frozen-set page. -/
def Store.frozenPage (st : Store) (n : Nat) : Option (List Byte) := slotBytes 256 FrozenSet.page (st.frozen.lookup n)

/-- The 1,024 bytes of an image slot. -/
def Store.imageSlot (st : Store) (n : Nat) : Option (List Byte) := slotBytes 1024 CommitImage.slot (st.images.lookup n)

/-- The valid interval records with their slots, in slot order (R212, R213). -/
def Store.validRecords (st : Store) : List (Nat × IntervalRecord) :=
  st.profile.valid.filter fun e => validRecordSlot e.2.bytes

/-- The valid frozen sets with their page slots, in slot order (R212, R214). -/
def Store.validFrozen (st : Store) : List (Nat × FrozenSet) := st.frozen.valid.filter fun e => validFrozenPage e.2.page

/-- The valid commit images with their slots, in slot order (R162, R212, R215). -/
def Store.validImages (st : Store) : List (Nat × CommitImage) := st.images.valid.filter fun e => validImageSlot e.2.slot

end Sys2Proof.Machine
end

