-- ==== Sys2Proof/Machine/Restart.lean ====
section
/-! DEFINITION. The image step of a restart (R188 step 1): DSC's scans, the restart kind, the rollback verdict, and what each
unit takes; the entry to BACKUP. -/

namespace Sys2Proof.Machine

/-! ## DSC's scans (R165, R166, R169, R175) -/

/-- The slot and record with the greatest key, the first among equals. -/
def newestBy {α : Type} (key : α → Nat) (l : List (Nat × α)) : Option (Nat × α) :=
  l.foldl
    (fun acc e =>
      match acc with
      | none => some e
      | some b => if key b.2 < key e.2 then some e else some b)
    none

/-- The newest valid configuration record with its page (R166). -/
def Store.newestConfig (st : Store) : Option (Nat × ConfigRecord) := newestBy (fun c => c.seq) st.config.valid

/-- The newest valid commit image with its slot (R165). -/
def Store.newestImage (st : Store) : Option (Nat × CommitImage) := newestBy (fun c => c.seq) st.validImages

/-- The newest valid frozen set with its slot (R22, R54, R122). -/
def Store.newestFrozen (st : Store) : Option (Nat × FrozenSet) := newestBy (fun c => c.number) st.validFrozen

/-- The next image slot after the selected image's (R165 step 3): the first erased slot later in its sector, else the first
slot of the next sector. -/
def Store.nextImageSlot (st : Store) : Option (Nat × CommitImage) → Nat
  | none => 0
  | some (n, _) =>
    match (List.range' (n + 1) (3 - n % 4)).find? fun k => st.images.erasedIn k (k + 1) with
    | some k => k
    | none => (n / 4 + 1) % 8 * 4

/-- The lifecycle of the mark slots (R169). -/
def Store.lifecycle (st : Store) : Lifecycle := if st.marks.valid.isEmpty then .commissioning else .inService

/-- The last configuration page used: the highest not erased in the newest record's sector (R166). -/
def Store.lastConfigPage (st : Store) : Option Nat :=
  match st.newestConfig with
  | none => none
  | some (p, _) => st.config.highest (p / 16 * 16) (p / 16 * 16 + 16)

/-- The configuration record held after the scan (R166). -/
def Store.heldConfig (st : Store) : ConfigRecord :=
  match st.newestConfig with
  | none => .defaults
  | some (_, c) => c

/-- DSC after its scans (R165, R166, R169, R175); request numbering goes on (log 22). -/
def Store.scanDsc (st : Store) (kind : RestartKind) (nextId : Nat) : Dsc :=
  let image := st.newestImage
  let held := st.heldConfig
  let slot := st.nextImageSlot image
  { Dsc.blank with
    nextSlot := slot
    nextSeq :=
      match image with
      | none => 1
      | some (_, x) => if x.seq = Config.maxSequence then x.seq else x.seq + 1
    seqSpent :=
      match image with
      | none => false
      | some (_, x) => x.seq == Config.maxSequence
    awaitsErase := slot % 4 == 0 && !st.images.erasedIn slot (slot + 4)
    held := held
    lastPage := st.lastConfigPage
    level := held.level
    lock := held.lock
    lifecycle := st.lifecycle
    alarm := kind == .imageLost
    identity := st.identity
    nextId := nextId }

/-! ## The restart kind and the rollback (R185, R189) -/

/-- The restart kind (R185). -/
def restartKind (cause : RestartCause) (image : Bool) (life : Lifecycle) : RestartKind :=
  if image then
    match cause with
    | .mainsReturn => .supply
    | .commandedImage => .commanded
    | .externalReset => .resetInput
  else
    match life with
    | .inService => .imageLost
    | .commissioning => .cold

/-- REGISTER_ROLLBACK for a SUPPLY restart (R189). DESIGN CHOICE (log 31): after a restore interrupted with the cell judged
LOW, the next restart finds the mark set and the hold-up record NONE (R178), so that it owes no rollback, whatever R190 says
of reaching the same verdict; and a restore begun again with the cell LOW is judged by the cause of the image it finds, so that
a routine image built in the first restore gives a rollback where the hold-up image gave none. -/
def rollbackJudged (cellGood : Bool) (record : HoldupRecord) (x : CommitImage) : Bool :=
  if cellGood then
    match record with
    | .complete q => decide (x.seq < q)
    | .numbered _ | .failed _ | .ordered => true
    | .none => false
  else x.cause != .holdup

/-- Whether the next record owes REGISTER_ROLLBACK (R24, R189). -/
def owesRollback (kind : RestartKind) (cellGood : Bool) (record : HoldupRecord) (image : Option CommitImage) : Bool :=
  match kind, image with
  | .imageLost, _ => true
  | .supply, some x => rollbackJudged cellGood record x
  | _, _ => false

/-! ## The units (R21 to R24, R40, R54, R77, R105, R122, R123, R150, R151, R174) -/

/-- CCK after a restart (R54). `gated` says that it followed BACKUP or power-on. DESIGN CHOICE (log 2): with the cell LOW
the second phase is 0 after a SUPPLY and an IMAGE_LOST restart too. -/
def Cck.restarted (c : Cck) (kind : RestartKind) (gated cellGood : Bool) (imageGen frozenGen : Option Nat) : Cck :=
  let kept := { c with due := ⟨none, none, none, none⟩ }
  match kind with
  | .cold => .blank
  | .commanded | .resetInput => kept
  | .imageLost =>
    if gated && !cellGood then
      { Cck.blank with
        gen :=
          match frozenGen with
          | some g => nextGen g
          | none => 0 }
    else kept
  | .supply => if cellGood then kept else { Cck.blank with gen := nextGen (imageGen.getD 0) }

/-- The table from a frozen set (R22). -/
def FrozenSet.table (f : FrozenSet) : Table :=
  { regs :=
      { f.regs with
        totalImp := f.regs.imp.sum % Config.wrapWh
        totalExp := f.regs.exp.sum % Config.wrapWh }
    res := ⟨0, 0, 0⟩
    demands := .empty
    calendarId := f.calendarId }

/-- NAU after a restart (R21 to R23). -/
def Nau.restarted (image : Option CommitImage) (frozen : Option FrozenSet) (held : ConfigRecord) : Nau :=
  match image with
  | some x => x.nau
  | none =>
    { table :=
        match frozen with
        | some f => f.table
        | none => .zero
      mode := held.mode
      pendingMode := none }

/-- MFP after a restart, inactive until service (R40); its timer runs on. DESIGN CHOICE (log 16): at a COMMANDED or RESET_INPUT
restart the port state, the sequence, the counts and the live values take R40's values here, in the image step (R188 step 1);
R39 has them kept through START until SSV's next change, and R40 names their values at completion. -/
def Mfp.restarted (m : Mfp) (image : Option CommitImage) (held : ConfigRecord) : Mfp :=
  match image with
  | some x => { Mfp.blank with map := x.mfp.map, pendingMap := x.mfp.pendingMap, timer := m.timer }
  | none => { Mfp.blank with map := held.map, timer := m.timer }

/-- A complete calendar record found at a restart: its sector, the record, whether it is marked (R76). -/
structure FoundCalendar where
  sector : Nat
  record : CalendarRecord
  marked : Bool
deriving DecidableEq, Repr

/-- What a sector holds (R76). DESIGN CHOICE (log 31): a mark page that is partly programmed counts as no mark, so that the
active record lacks its mark (R77) and the mark is asked for again at each restart. -/
def CalendarSector.found (c : CalendarSector) (sector : Nat) : Option FoundCalendar :=
  match c.record with
  | some (.whole r) => some ⟨sector, r, c.mark == some (.whole ())⟩
  | _ => none

/-- The complete records of sectors 3 and 4 (R77). -/
def Store.calendars (st : Store) : List FoundCalendar :=
  [st.calendar3.found 3, st.calendar4.found 4].filterMap id

/-- The one with the higher write sequence. -/
def higherSeq : List FoundCalendar → Option FoundCalendar
  | [] => none
  | a :: t =>
    match higherSeq t with
    | some b => if a.record.seq < b.record.seq then some b else some a
    | none => some a

/-- The active calendar of a restart: the one the image names, else the newest marked one (R77). -/
def chooseActive (found : List FoundCalendar) (image : Option TcuPart) : Option FoundCalendar :=
  match (image.bind fun x => x.activeSeq).bind fun q => found.find? fun f => f.record.seq == q with
  | some f => some f
  | none => higherSeq (found.filter fun f => f.marked)

/-- The waiting calendar of a restart (R77). DESIGN CHOICE (log 31): of two complete unmarked records with no calendar
active, the one with the higher write sequence waits. -/
def chooseWaiting (found : List FoundCalendar) (active : Option FoundCalendar) (discarded : Nat) :
    Option FoundCalendar :=
  higherSeq (found.filter fun f =>
    !f.marked && decide (discarded < f.record.seq)
      && (match active with
          | some a => f.sector != a.sector && decide (a.record.seq < f.record.seq)
          | none => true))

/-- The next write sequence after a restart (R77). -/
def nextWriteSeq (found : List FoundCalendar) (image : Option TcuPart) : Nat :=
  match image, higherSeq found with
  | some x, some f => max x.nextSeq (f.record.seq + 1)
  | some x, none => x.nextSeq
  | none, some f => f.record.seq + 1
  | none, none => 1

/-- TCU after the image step (R77, R78); the band is decided at resumption (log 16). -/
def Tcu.restarted (found : List FoundCalendar) (image : Option TcuPart) : Tcu :=
  let active := chooseActive found image
  let discarded :=
    match image with
    | some x => x.discarded
    | none => 0
  { Tcu.blank with
    active := active.map fun f => f.record
    slot :=
      match chooseWaiting found active discarded with
      | some f => .waiting f.record
      | none => .empty
    discarded := discarded
    nextSeq := nextWriteSeq found image
    activeSector :=
      match active with
      | some f => f.sector
      | none => 3
    markOwed :=
      match active with
      | some f => !f.marked
      | none => false }

/-- The write position and whether its sector's erase is requested, from the newest record's slot (R105 step 2, R122
step 2): the slot after the highest not erased of its sector, or slot 0 of the next. `per` is the number of slots of a
sector, `all` that of the region. -/
def writePosition {α : Type} (r : Region α) (per all : Nat) (head : Nat) : Nat × EraseState :=
  let top := (r.highest (head / per * per) (head / per * per + per)).getD head
  ((top + 1) % all, if (top + 1) % per = 0 then .requested else .idle)

/-- The ring of a restart (R105 step 3): the valid records in round order from the sector after the write position's,
through the head. -/
def ringAfter (valid : List (Nat × IntervalRecord)) (writePos head : Nat) : List RingEntry :=
  let start := (writePos / 128 + 1) * 128
  let round := (valid.filter fun e => decide (start ≤ e.1)) ++ (valid.filter fun e => decide (e.1 < start))
  let upto := round.takeWhile fun e => e.2.number != head
  let last := (round.find? fun e => e.2.number == head).toList
  (upto ++ last).map fun e => ⟨e.2.number, e.1⟩

/-- A reader's cursor and skip count brought into range (R105 step 6). -/
def Reader.clamp (cursor skip threshold oldest next : Nat) : Reader :=
  if cursor < oldest then ⟨oldest, satAdd 65535 skip (oldest - cursor), 0, threshold⟩
  else ⟨min cursor next, skip, 0, threshold⟩

/-- The next append number and whether the last has been given, from the head's number and the image (R93, R105 step 4).
DESIGN CHOICE (log 30): the image's flag says that its number has been given, and a head at the last number says so too. -/
def nextAppend (head : Option Nat) (image : Option IpuPart) : Nat × Bool :=
  let fromHead :=
    match head with
    | some h => h + 1
    | none => 1
  let n :=
    match image with
    | some x => max x.nextNumber fromHead
    | none => fromHead
  let spent :=
    match image with
    | some x => x.numbersSpent
    | none => false
  if Config.maxSequence < n then (Config.maxSequence, true) else (n, spent)

/-- The ring, write position, erase state, numbers and queue of a restart (R105 steps 1 to 5). -/
def Ipu.scanned (st : Store) (image : Option IpuPart) : Ipu :=
  let head := newestBy (fun r => r.number) st.validRecords
  let next := nextAppend (head.map fun h => h.2.number) image
  let queue :=
    match image with
    | some x => x.queue.filter fun r => decide ((match head with | some h => h.2.number | none => 0) < r.number)
    | none => []
  match head with
  | none => { Ipu.blank with nextNumber := next.1, numbersSpent := next.2, queue := queue }
  | some h =>
    let w := writePosition st.profile 128 Config.profileSlots h.1
    { Ipu.blank with
      nextNumber := next.1
      numbersSpent := next.2
      queue := queue
      writePos := w.1
      erase := w.2
      ring := ringAfter st.validRecords w.1 h.2.number }

/-- IPU after the image step (R104 to R107); what the resumption decides waits for it (log 16). -/
def Ipu.restarted (st : Store) (image : Option CommitImage) (held : ConfigRecord) (rollback reset : Bool) : Ipu :=
  let u := { Ipu.scanned st (image.map fun x => x.ipu) with owedRollback := rollback, owedReset := reset }
  match image with
  | none =>
    { u with
      length := held.length
      utility := ⟨u.oldest, 0, 0, held.utilityThreshold⟩
      site := ⟨u.oldest, 0, 0, held.siteThreshold⟩ }
  | some x =>
    { u with
      length := x.ipu.length
      pendingLength := x.ipu.pendingLength
      interval := x.ipu.interval
      calendarHold := x.ipu.calendarHold
      supplyMark := x.ipu.supplyMark
      utility := Reader.clamp x.ipu.utilityCursor x.ipu.utilitySkip x.ipu.utilityThreshold u.oldest u.nextNumber
      site := Reader.clamp x.ipu.siteCursor x.ipu.siteSkip x.ipu.siteThreshold u.oldest u.nextNumber
      savedAt := some x.cck.time }

/-- A set put in the view in order of freeze number, newest first (R122 step 1). -/
def insertHistory (e : HistoryEntry) : List HistoryEntry → List HistoryEntry
  | [] => [e]
  | x :: t => if x.number < e.number then e :: x :: t else x :: insertHistory e t

/-- The frozen history view of a restart (R122 step 1). -/
def historyOf (valid : List (Nat × FrozenSet)) : List HistoryEntry :=
  valid.foldl (fun acc e => insertHistory ⟨e.2.number, e.1, false⟩ acc) []

/-- BFU's scan (R122 steps 1 and 2, R123). -/
def Bfu.scanned (st : Store) : Bfu :=
  let newest := st.newestFrozen
  let scheduled := newestBy (fun f => f.number) (st.validFrozen.filter fun e => e.2.cause == .scheduled)
  let w :=
    match newest with
    | some (p, _) => writePosition st.frozen 16 32 p
    | none => (0, if st.frozen.erasedIn 0 16 then .idle else .requested)
  { Bfu.blank with
    counter :=
      match newest with
      | some (_, f) => f.number
      | none => 0
    lastDate := scheduled.bind fun e => e.2.billingDate
    history := historyOf st.validFrozen
    writePos := w.1
    erase := w.2 }

/-- BFU after the image step (R122, R123): a captured set already on the store is dropped. -/
def Bfu.restarted (st : Store) (image : Option BfuPart) (held : ConfigRecord) : Bfu :=
  let b := Bfu.scanned st
  match image with
  | none => { b with billingDay := held.billingDay }
  | some x =>
    { b with
      billingDay := x.billingDay
      captured :=
        match x.captured with
        | some f => if b.history.any fun e => e.number == f.number then none else some f
        | none => none
      deferred := x.deferred
      counter := max x.counter b.counter
      lastDate := laterDate x.lastDate b.lastDate }

/-- ECU after the image step (R150, R151); limits are computed at resumption, and what R150 sets there and no image
holds is absent, 0 or IDLE until then (DESIGN CHOICE, log 16). -/
def Ecu.restarted (image : Option EcuPart) (held : ConfigRecord) : Ecu :=
  match image with
  | none =>
    { Ecu.blank with
      config := held.ecu, effective := held.ecu.staticLimit, noticeLimit := held.ecu.staticLimit,
      settled := held.ecu.staticLimit }
  | some x =>
    { Ecu.blank with
      list := x.list, nextSeq := x.nextSeq, config := x.config, effective := x.config.staticLimit, notice := x.notice,
      noticeLimit := x.noticeLimit, handshake := x.handshake, settled := x.settled, interlock := x.interlock,
      cause := x.cause, hold := x.hold }

/-- CVM after a restart (R174). With the cell LOW the cover is the switch sampled here; an OPEN sample is an opening where CVM
held CLOSED, and otherwise the latch is the image's, or clear, and the flag clear (log 26). -/
def Cvm.restarted (c : Cvm) (gated cellGood : Bool) (switch : Cover) (imageTamper : Bool) : Cvm :=
  if gated && !cellGood then
    match switch, c.cover with
    | .opened, .closed => ⟨.opened, true, true⟩
    | sample, _ => ⟨sample, imageTamper, false⟩
  else c

/-- A port at the entry to START (R191); what was sent last stays as sent (log 22). -/
def Port.emptied (x : Port) (cover : Cover) : Port :=
  { Port.blank with coverView := cover, serial := x.serial, sent := x.sent }

/-- BFU's part of the write step: the erase first where one is required, else the program (R122 step 5, R188 step 2). -/
def State.beginWriteStep (s : State) : State :=
  if s.bfu.captured.isSome then
    let s1 := s.setSsv { s.ssv with writeStep := true }
    if s1.bfu.erase = .requested then s1.askFrozenErase else s1.handFreeze
  else s

/-- The image step, from the array as it stands and the cause SSV holds (R188 step 1); every restart sets the retention mark
(R178). The Optical Port takes CVM's cover state here, without a report of CVM's, where R191 and R195 are silent (DESIGN
CHOICE, log 32). -/
def State.imageStep (s : State) : State :=
  let image := s.store.newestImage.map fun e => e.2
  let kind := restartKind s.ssv.cause image.isSome s.store.lifecycle
  let gated := s.ssv.cause == .mainsReturn
  let good := s.ssv.cellGood
  let frozen := s.store.newestFrozen.map fun e => e.2
  let held := s.store.heldConfig
  let cvm := s.cvm.restarted gated good s.coverSwitch
    (match image with
      | some x => x.tamper
      | none => false)
  { s with
    dsc := s.store.scanDsc kind s.dsc.nextId
    ssv :=
      { s.ssv with
        supply := .start, phase := some .restoring, gatingMs := none, kind := kind, commanded := none,
        retention := true, writeStep := false, resumed := false, owed := ⟨false, false, false, false, false⟩ }
    cck := s.cck.restarted kind gated good (image.map fun x => x.cck.gen) (frozen.map fun f => f.gen)
    nau := Nau.restarted image frozen held
    mfp := s.mfp.restarted image held
    tcu := Tcu.restarted s.store.calendars (image.map fun x => x.tcu)
    ipu := Ipu.restarted s.store image held (owesRollback kind good s.ssv.record image) (kind == .resetInput)
    bfu := Bfu.restarted s.store (image.map fun x => x.bfu) held
    ecu := Ecu.restarted (image.map fun x => x.ecu) held
    cvm := cvm
    ulk := s.ulk.emptied cvm.cover
    slk := s.slk.emptied cvm.cover
    opt := s.opt.emptied cvm.cover
    mail := .empty
    exportPermit := false }

/-- A restart enters START in phase RESTORING: operations on the array stop where they stand, the image step, the start of
the write step (R175, R188). -/
def State.restart (s : State) : State := s.cutOperations.imageStep.beginWriteStep

/-- The entry to BACKUP (R183): everything on mains is lost, the cell domain and the array stay. Until the restart a unit out
of service reads as one never in service (DESIGN CHOICE, log 16). -/
def State.enterBackup (s : State) : State :=
  let t := s.cutOperations
  { t with
    mfp := .blank
    nau := .blank
    cck := { t.cck with due := ⟨none, none, none, none⟩ }
    tcu := .blank
    ipu := .blank
    bfu := .blank
    ecu := .blank
    dsc := { Dsc.blank with nextId := t.dsc.nextId }
    ssv :=
      { Ssv.blank with
        supply := .backup, mainsGood := t.ssv.mainsGood, record := t.ssv.record, retention := t.ssv.retention }
    ulk := t.ulk.emptied .closed
    slk := t.slk.emptied .closed
    opt := t.opt.emptied .closed
    mail := .empty
    exportPermit := false }

end Sys2Proof.Machine
end

