-- ==== Sys2Proof/Machine/Supply.lean ====
section
/-! DEFINITION. The Supply Supervisor (chapter 9): mains, hold-up, BACKUP, restarts, the resumption of units, service. -/

namespace Sys2Proof.Machine

/-! ## Mains (R177 to R180) -/

/-- START in phase GATING, from BACKUP or power-on (R177, R178); the Optical Port takes CVM's cover state. -/
def State.beginGating (s : State) : State :=
  let s1 := s.setSsv { s.ssv with supply := .start, phase := some .gating, gatingMs := some 0 }
  s1.setOpt { s1.opt with coverView := s1.cvm.cover }

/-- MAINS_GOOD (R177). -/
def execMainsGood (s : State) : Host.Outcome State Fault Refusal :=
  .next
    (let t := s.setSsv { s.ssv with mainsGood := true }
    if s.ssv.supply = .backup then t.beginGating else t)

/-- A port at the entry to HOLDUP (R180, R191): a frame that it was collecting is discarded with its request (log 22). -/
def Port.heldUp (x : Port) : Port := { x with inProgress := none, writeEnable := false, collecting := [] }

/-- The entry to HOLDUP (R179): the units' notices, then the order of the hold-up commit. -/
def State.enterHoldup (s : State) : State :=
  let t :=
    { s with
      ssv := { s.ssv with supply := .holdup, record := .ordered, commanded := none }
      mfp := s.mfp.heldUp
      exportPermit := false
      ulk := s.ulk.heldUp
      slk := s.slk.heldUp
      opt := s.opt.heldUp }
  (t.flagInterval Quality.supplyLost).orderHoldup

/-- MAINS_FAIL (R177, R179, R190). -/
def execMainsFail (s : State) : Host.Outcome State Fault Refusal :=
  .next
    (let t := s.setSsv { s.ssv with mainsGood := false }
    match s.ssv.supply with
    | .start => t.enterBackup
    | .mains => t.enterHoldup
    | .holdup | .backup => t)

/-! ## The end of the hold-up commit (R181 to R183) -/

/-- The return to MAINS without a restore (R182): every unit's notice, ECU's view IDLE by MFP's report (R148), and then the
dues reached during HOLDUP (R53). A due that a change of time reached, whose notice the owner took in HOLDUP, is delivered
here too and marked as reached by advance (DESIGN CHOICE, log 17). -/
def State.returnToMains (s : State) : State :=
  let s1 := s.setSsv { s.ssv with supply := .mains, record := .none }
  let s2 := ((s1.reportPort s1.mfp.port .idle).setMfp s1.mfp.resumed).settleMfp
  let s3 := s2.ipuReturned.setExportPermit (s2.ecu.interlock == .closed)
  ((s3.setDsc s3.dsc.returned).reportHeldOpening).testSlots .byAdvance

/-- DSC's report of the end of the hold-up commit. -/
def SsvMail.isHoldupEnd : SsvMail → Bool
  | .holdupEnd _ _ => true
  | .commandedImage _ _ => false

/-- SSV moves on by the mains view (R177, R181). -/
def State.endHoldup (s : State) (ok : Bool) (seq : Nat) : State :=
  let t := s.setSsv { s.ssv with record := if ok then .complete seq else .failed seq }
  if s.ssv.mainsGood then t.returnToMains else t.enterBackup

/-- HOLDUP_COMMIT_END (R181). -/
def execHoldupCommitEnd (s : State) : Host.Outcome State Fault Refusal :=
  .next
    (match s.ssv.supply with
    | .holdup =>
      match takeFirst SsvMail.isHoldupEnd s.mail.ssv with
      | some (.holdupEnd ok seq, rest) => (s.setMail { s.mail with ssv := rest }).endHoldup ok seq
      | _ => s
    | .start | .mains | .backup => s)

/-- SUPPLY_END (R177, R183). -/
def execSupplyEnd (s : State) : Host.Outcome State Fault Refusal :=
  .next
    (match s.ssv.supply with
    | .start | .holdup => s.enterBackup
    | .mains | .backup => s)

/-- RETENTION_MARK_LOST (R171, R178): in BACKUP, everything held on the cell goes; on mains it has no effect (log 26). -/
def execRetentionMarkLost (s : State) : Host.Outcome State Fault Refusal :=
  .next
    (match s.ssv.supply with
    | .backup => { s with cck := .blank, cvm := .blank, ssv := .blank }
    | .start | .mains | .holdup => s)

/-! ## Restarts (R178, R186 to R188) -/

/-- The gating time has passed: the cell is judged, the retention mark set again, and the restore begins (R178). -/
def State.endGating (s : State) : State :=
  (s.setSsv
    { s.ssv with
      cellGood := s.ssv.retention
      record := if s.ssv.retention then s.ssv.record else .none
      cause := .mainsReturn }).restart

/-- GATING_TIMER_EXPIRY (R178). -/
def execGatingTimerExpiry (s : State) : Host.Outcome State Fault Refusal :=
  .next (if s.ssv.supply = .start ∧ s.ssv.phase = some .gating then s.endGating else s)

/-- SSV takes RESTART (R186); with no image sequence left the commanded image is refused (log 19). -/
def State.commandRestart (o : Origin) (s : State) : State :=
  let s1 := s.setSsv { s.ssv with commanded := some o }
  if s.dsc.seqSpent then s1.refuseClient (.commandedImage o) else s1.enqueue (.commandedImage o) []

/-- A port takes RESTART (R186). -/
def serveRestart (p : PortId) (tag : Byte) (payload : List Byte) (s : State) : State :=
  s.serveWith p 0x75 tag payload (readEmpty payload) (fun _ => State.commandRestart)

/-- SSV takes DSC's report on the commanded image while a commanded restart is pending (R186). -/
def State.endCommanded (s : State) (ok : Bool) (o : Origin) : State :=
  let s1 := s.setSsv { s.ssv with commanded := none }
  if ok then
    let s2 := s1.reply o .ok []
    (s2.setSsv { s2.ssv with cause := .commandedImage }).restart
  else s1.reply o .storeFault []

/-- COMMANDED_IMAGE_COMPLETION (R186). A report on the image of a RESTART that is no longer pending does nothing, also while
another is pending. -/
def execCommandedImageCompletion (s : State) : Host.Outcome State Fault Refusal :=
  .next
    (match takeFirst (fun m => !m.isHoldupEnd) s.mail.ssv with
    | some (.commandedImage o ok, rest) =>
      let t := s.setMail { s.mail with ssv := rest }
      if s.ssv.commanded = some o then t.endCommanded ok o else t
    | _ => s)

/-- EXTERNAL_RESET (R187, R190). -/
def execExternalReset (s : State) : Host.Outcome State Fault Refusal :=
  .next
    (match s.ssv.supply with
    | .mains => (s.setSsv { s.ssv with cause := .externalReset }).restart
    | .start => if s.ssv.phase = some .restoring then s.restart else s
    | .holdup | .backup => s)

/-! ## Resumption and service (R188) -/

/-- DSC at the resumption of units: the erase the image scan found due (R165 step 4). An erase-ahead already queued is one
that an image written since the scan requested, and it is the only one needed (R164). -/
def State.dscResume (s : State) : State :=
  if s.dsc.awaitsErase && !(s.dsc.queue.any fun r => r.client == .imageErase) then
    s.enqueue .imageErase [.erase (7 + s.dsc.nextSlot / 4)]
  else s

/-- RESUMPTION (R188 step 3): once the write step has ended, every unit is given the notice. -/
def execResumption (s : State) : Host.Outcome State Fault Refusal :=
  .next
    (if s.ssv.supply = .start ∧ s.ssv.phase = some .restoring ∧ s.ssv.writeStep = false ∧ s.ssv.resumed = false then
      (s.setSsv { s.ssv with resumed := true, owed := ⟨true, true, true, true, true⟩ }).dscResume
    else s)

/-- Whether no unit has its resumption notice outstanding. -/
def Owed.settled (o : Owed) : Bool := !(o.ipu || o.tcu || o.bfu || o.ecu || o.cvm)

/-- The level members a port finds holding at service (R45, R150, R159, R174, R191). -/
def State.levelsHolding (s : State) (p : PortId) : Members :=
  { Members.none with
    setpointNotice := belongsTo .setpointNotice p && s.ecu.handshake != .settled
    tamper := belongsTo .tamper p && s.cvm.tamper
    timeUnset := belongsTo .timeUnset p && !s.cck.valid
    storeFault := belongsTo .storeFault p && s.dsc.alarm }

/-- A port at service (R188 step 4, R191): RESTARTED with the kind, and the level members that hold. -/
def Port.inService (x : Port) (levels : Members) (kind : RestartKind) : Port :=
  { x with attention := { levels with restarted := true }, restartKind := kind, mask := .none }.withLine false

/-- Reports of level members sent before service are answered by what holds then (log 25). -/
def eventReports (l : List AttentionReport) : List AttentionReport := l.filter fun r => !isLevel r.member

/-- SSV enters MAINS (R188 step 4). -/
def State.enterService (s : State) : State :=
  { s with
    ssv := { s.ssv with supply := .mains, phase := none, resumed := false, record := .none }
    exportPermit := s.ecu.interlock == .closed
    mfp := s.mfp.resumed
    mail :=
      { s.mail with ulk := eventReports s.mail.ulk, slk := eventReports s.mail.slk, opt := eventReports s.mail.opt }
    ulk := s.ulk.inService (s.levelsHolding .ulk) s.ssv.kind
    slk := s.slk.inService (s.levelsHolding .slk) s.ssv.kind
    opt := s.opt.inService (s.levelsHolding .opt) s.ssv.kind }

/-- SERVICE_ENTRY (R188 step 4): once every unit has resumed. -/
def execServiceEntry (s : State) : Host.Outcome State Fault Refusal :=
  .next (if s.ssv.supply = .start ∧ s.ssv.resumed = true ∧ s.ssv.owed.settled = true then s.enterService else s)

end Sys2Proof.Machine
end

