-- ==== Sys2Proof/Machine/Ports.lean ====
section
/-! DEFINITION. The requests the port controllers serve themselves (chapter 10): the asks of other blocks, status, attention,
write enable, snapshot latches, live values, configuration reads, and the frames they refuse. -/

namespace Sys2Proof.Machine

/-! ## Asks of other blocks (R198, R199, R201, R205) -/

/-- The blocks that a read asks (R198, R201, R205). -/
def ReadKind.blocks : ReadKind → List Block
  | .status => [.ssv, .mfp, .cck, .tcu, .ipu, .bfu, .ecu, .dsc, .cvm]
  | .live => [.mfp, .ecu]
  | .config => [.mfp, .nau, .ipu, .bfu, .ecu, .dsc]

/-- The port asks other blocks for their values; the request stays in progress until all have answered (R192, R198). -/
def State.ask (s : State) (a : Asking) (o : Origin) : State :=
  match (s.port o.port).inProgress with
  | some r => s.setPort o.port { s.port o.port with inProgress := some { r with asking := some a } }
  | none => s

/-! ## READ_STATUS (R205, R219) -/

/-- The store state's code: READY 0, BUSY 1, SUSPENDED 2, FAULT 3 (R154). -/
def Dsc.storeState (d : Dsc) : Nat :=
  if d.fault then 3 else if d.suspended.isSome then 2 else if d.inFlight.isSome then 1 else 0

/-- The operation in flight: none 0, PROGRAM 1, ERASE 2, READ 3 (R219). -/
def Dsc.operation (d : Dsc) : Nat :=
  match d.inFlight with
  | none => 0
  | some x =>
    match x.op with
    | .program _ => 1
    | .erase _ => 2
    | .readRecords _ | .readFrozen _ => 3

/-- SSV's items. -/
def Ssv.status (v : Ssv) : List Byte :=
  be 1 v.supply.code ++ be 1 v.kind.code ++ be 1 (if v.cellGood then 0 else 1)

/-- CCK's items. -/
def Cck.status (c : Cck) : List Byte := be 4 c.time ++ be 1 (validityCode c.valid) ++ be 1 c.gen

/-- The waiting calendar's id. -/
def Tcu.waitingId (u : Tcu) : Option Nat :=
  match u.slot with
  | .waiting r => some r.calendar.id
  | .empty | .loading _ => none

/-- TCU's items. Of an activation boundary beyond 32 bits the low 4 bytes are sent (R73, DESIGN CHOICE, log 30). -/
def Tcu.status (u : Tcu) : List Byte :=
  be 1 u.slot.code ++ optBe 2 u.activeId ++ optBe 2 u.waitingId ++ optBe 4 u.boundary ++ be 1 u.band

/-- IPU's items. -/
def Ipu.status (u : Ipu) : List Byte :=
  be 1 u.length ++ optBe 1 u.pendingLength ++ be 4 u.nextNumber ++ be 4 u.oldest ++ be 2 u.ring.length

/-- BFU's items. -/
def Bfu.status (b : Bfu) : List Byte :=
  flagByte b.captured.isSome ++ flagByte b.deferred ++ be 4 b.counter ++ be 1 b.billingDay ++ optDate b.lastDate
    ++ optBe 4 (b.history.head?.map fun e => e.number)

/-- DSC's items. -/
def Dsc.status (d : Dsc) : List Byte :=
  be 1 d.storeState ++ be 1 d.operation ++ be 1 d.level ++ flagByte d.lock ++ be 1 d.lifecycle.code ++ be 4 d.nextSeq

/-- CVM's items. -/
def Cvm.status (c : Cvm) : List Byte := be 1 c.cover.code ++ flagByte c.tamper

/-- The unread parts of a latch, 0 when EMPTY. -/
def Port.unreadBits (x : Port) : Nat :=
  match x.latch with
  | some l => l.unread.bits
  | none => 0

/-- The port's own items. -/
def Port.status (x : Port) : List Byte :=
  flagByte x.writeEnable ++ flagByte x.latch.isSome ++ be 1 x.unreadBits

/-- What a block answers to READ_STATUS (R205, R219). -/
def State.statusPart (s : State) : Block → List Byte
  | .ssv => s.ssv.status
  | .mfp => be 1 s.mfp.port.code
  | .cck => s.cck.status
  | .tcu => s.tcu.status ++ flagByte s.sessionOpen
  | .ipu => s.ipu.status
  | .bfu => s.bfu.status
  | .ecu => be 1 s.ecu.handshake.code ++ be 1 s.ecu.interlock.code
  | .dsc => s.dsc.status
  | .cvm => s.cvm.status
  | .nau => []

/-- A port takes READ_STATUS (R205). -/
def serveReadStatus (p : PortId) (tag : Byte) (payload : List Byte) (s : State) : State :=
  s.serveWith p 0x01 tag payload (readEmpty payload)
    (fun _ o t => t.ask ⟨ReadKind.status.blocks, .read .status []⟩ o)

/-! ## Attention (R202 to R204, R210) -/

/-- The answer of READ_ATTENTION: the set and the restart kind (R210). -/
def Port.attentionBytes (x : Port) : List Byte :=
  be 2 x.attention.bits ++ be 1 (if x.attention.restarted then x.restartKind.code else 0)

/-- The port answers READ_ATTENTION; the event members returned leave the set (R203). -/
def State.answerAttention (o : Origin) (s : State) : State :=
  let x := s.port o.port
  (s.setPort o.port ({ x with attention := x.attention.levelsOnly }.withLine s.linesOff)).reply o .ok x.attentionBytes

/-- A port takes READ_ATTENTION (R203). -/
def serveReadAttention (p : PortId) (tag : Byte) (payload : List Byte) (s : State) : State :=
  s.serveWith p 0x02 tag payload (readEmpty payload) (fun _ => State.answerAttention)

/-- The port judges SET_ATTENTION_MASK (R204, R210). -/
def State.setMask (n : Nat) (o : Origin) (s : State) : State :=
  let m := Members.ofBits n
  if n < 2048 ∧ m.allBelong o.port = true then
    let x := s.port o.port
    (s.setPort o.port ({ x with mask := m }.withLine s.linesOff)).reply o .ok (be 2 m.bits)
  else s.reply o .badArgument []

/-- A port takes SET_ATTENTION_MASK (R204). -/
def serveSetAttentionMask (p : PortId) (tag : Byte) (payload : List Byte) (s : State) : State :=
  s.serveWith p 0x03 tag payload (readNumber 2 payload) State.setMask

/-- The reports in transit to a port. -/
def Mail.reports (m : Mail) : PortId → List AttentionReport
  | .ulk => m.ulk
  | .slk => m.slk
  | .opt => m.opt

/-- The mail with a port's reports replaced. -/
def Mail.putReports (m : Mail) (p : PortId) (l : List AttentionReport) : Mail :=
  match p with
  | .ulk => { m with ulk := l }
  | .slk => { m with slk := l }
  | .opt => { m with opt := l }

/-- Whether the ports take reports: in MAINS and HOLDUP; in START they wait for service (R180, R202, log 25). -/
def State.takesReports (s : State) : Bool :=
  match s.ssv.supply with
  | .mains | .holdup => true
  | .start | .backup => false

/-- A port takes a report (R202). -/
def Port.takeReport (x : Port) (r : AttentionReport) (off : Bool) : Port :=
  { x with attention := x.attention.put r.member r.present }.withLine off

/-- ATTENTION_REPORT (R202): the oldest report of the member in transit to the port (log 6). -/
def execAttentionReport (p : PortId) (m : Member) (s : State) : Host.Outcome State Fault Refusal :=
  .next
    (if s.takesReports then
      match takeFirst (fun r => r.member == m) (s.mail.reports p) with
      | some (r, rest) =>
        let t := s.setMail (s.mail.putReports p rest)
        t.setPort p ((t.port p).takeReport r t.linesOff)
      | none => s
    else s)

/-! ## Write enable (R196) -/

/-- The port takes ENABLE_WRITE (R196). -/
def State.enableWrite (o : Origin) (s : State) : State :=
  (s.setPort o.port { s.port o.port with writeEnable := true }).reply o .ok []

/-- A port takes ENABLE_WRITE (R196). -/
def serveEnableWrite (p : PortId) (tag : Byte) (payload : List Byte) (s : State) : State :=
  s.serveWith p 0x08 tag payload (readEmpty payload) (fun _ => State.enableWrite)

/-! ## Snapshot latches (R199, R200, R217) -/

/-- A latch before any owner has contributed to it; every item is replaced before the latch is HELD. -/
def Latch.blank : Latch :=
  { time := 0, valid := false, gen := 0, band := 0, freezeCounter := 0, effective := 0, enforced := 0, notice := 0,
    handshake := .settled, interlock := .closed, table := .zero, unread := ⟨true, true, true, true⟩ }

/-- A block's contribution to a latch, as the block holds it now (R18, R147, R199). -/
def State.contribute (s : State) (l : Latch) : Block → Latch
  | .nau => { l with table := s.nau.table }
  | .cck => { l with time := s.cck.time, valid := s.cck.valid, gen := s.cck.gen }
  | .tcu => { l with band := s.tcu.band }
  | .bfu => { l with freezeCounter := s.bfu.counter }
  | .ecu =>
    { l with
      effective := s.ecu.effective
      enforced := s.ecu.enforced
      notice := s.ecu.notice
      handshake := s.ecu.handshake
      interlock := s.ecu.interlock }
  | .ssv | .mfp | .ipu | .dsc | .cvm => l

/-- The port takes LATCH_REGISTERS: it asks the owners, or answers ALREADY_HELD (R199, R217). -/
def State.latchRegisters (o : Origin) (s : State) : State :=
  match (s.port o.port).latch with
  | none => s.ask ⟨[.nau, .cck, .tcu, .bfu, .ecu], .latch .blank⟩ o
  | some _ => s.reply o .ok (be 1 1)

/-- A port takes LATCH_REGISTERS (R199). -/
def serveLatchRegisters (p : PortId) (tag : Byte) (payload : List Byte) (s : State) : State :=
  s.serveWith p 0x04 tag payload (readEmpty payload) (fun _ => State.latchRegisters)

/-- The lowest-numbered unread part. -/
def Unread.first (u : Unread) : Nat := if u.p1 then 1 else if u.p2 then 2 else if u.p3 then 3 else 4

/-- The unread set after a part is read. -/
def Unread.read (u : Unread) (n : Nat) : Unread :=
  match n with
  | 1 => { u with p1 := false }
  | 2 => { u with p2 := false }
  | 3 => { u with p3 := false }
  | _ => { u with p4 := false }

/-- The port returns part n of its latch; the latch is EMPTY once no part is unread (R200). -/
def State.returnPart (s : State) (l : Latch) (n : Nat) (o : Origin) : State :=
  let unread := l.unread.read n
  let latch := if unread.bits = 0 then none else some { l with unread := unread }
  (s.setPort o.port { s.port o.port with latch := latch }).reply o .ok (be 1 n ++ be 1 unread.bits ++ l.part n)

/-- The port judges READ_LATCHED (R200). With the latch EMPTY a part number outside 1..4 is answered LATCH_EMPTY (DESIGN
CHOICE, log 32). -/
def State.readLatched (part : Option Nat) (o : Origin) (s : State) : State :=
  match (s.port o.port).latch, part with
  | none, _ => s.reply o .latchEmpty []
  | some l, some n => if 1 ≤ n ∧ n ≤ 4 then s.returnPart l n o else s.reply o .badArgument []
  | some l, none => s.returnPart l l.unread.first o

/-- A port takes READ_LATCHED (R200). -/
def serveReadLatched (p : PortId) (tag : Byte) (payload : List Byte) (s : State) : State :=
  s.serveWith p 0x05 tag payload (readPartNumber payload) State.readLatched

/-- The port takes RELEASE_LATCH (R200). -/
def State.releaseLatch (o : Origin) (s : State) : State :=
  (s.setPort o.port { s.port o.port with latch := none }).reply o .ok []

/-- A port takes RELEASE_LATCH (R200). -/
def serveReleaseLatch (p : PortId) (tag : Byte) (payload : List Byte) (s : State) : State :=
  s.serveWith p 0x06 tag payload (readEmpty payload) (fun _ => State.releaseLatch)

/-! ## READ_LIVE (R201) -/

/-- A power in W from mWh of an epoch, rounded toward 0 (R201). -/
def powerOf (mWh : Int) : Int := (mWh * 36).tdiv 10

/-- The sum of the mapped phases; absent in a fault frame (R201). -/
def Live.net (l : Live) : Option Int :=
  if l.fault then none else some (([l.a, l.b, l.c].filterMap id).foldl (· + ·) 0)

/-- The frame flags (R219). -/
def Live.flags (l : Live) : Nat := bitAt 0 l.voltA + bitAt 1 l.voltB + bitAt 2 l.voltC + bitAt 3 l.fault

/-- The live values' bytes, absent without an accepted frame (R201, R219). -/
def liveBytes (l : Option Live) : List Byte :=
  optSigned ((l.bind fun x => x.a).map powerOf) ++ optSigned ((l.bind fun x => x.b).map powerOf)
    ++ optSigned ((l.bind fun x => x.c).map powerOf) ++ optSigned ((l.bind Live.net).map powerOf)
    ++ optBe 4 ((l.bind fun x => x.gen).map fun g => g * 36 / 10) ++ optBe 1 (l.map Live.flags)

/-- What a block answers to READ_LIVE (R201, R219). -/
def State.livePart (s : State) : Block → List Byte
  | .mfp => be 1 s.mfp.port.code ++ liveBytes s.mfp.live
  | .ecu => be 4 s.ecu.effective ++ be 1 s.ecu.interlock.code
  | .ssv | .nau | .cck | .tcu | .ipu | .bfu | .dsc | .cvm => []

/-- A port takes READ_LIVE (R201). -/
def serveReadLive (p : PortId) (tag : Byte) (payload : List Byte) (s : State) : State :=
  s.serveWith p 0x07 tag payload (readEmpty payload)
    (fun _ o t => t.ask ⟨ReadKind.live.blocks, .read .live []⟩ o)

/-! ## Configuration (R197, R198) -/

/-- What a block answers to READ_CONFIG (R198, R209): its items with the values in force, and the pending ones. -/
def State.configPart (s : State) : Block → List Byte
  | .mfp => s.mfp.map.bytes ++ pendingMapBytes s.mfp.pendingMap
  | .nau => be 1 s.nau.mode.code ++ optBe 1 (s.nau.pendingMode.map NettingMode.code)
  | .ipu =>
    be 1 s.ipu.length ++ optBe 1 s.ipu.pendingLength ++ be 2 s.ipu.utility.threshold ++ be 2 s.ipu.site.threshold
  | .bfu => be 1 s.bfu.billingDay
  | .ecu =>
    be 4 s.ecu.config.staticLimit ++ be 2 s.ecu.config.tolerance ++ be 1 s.ecu.config.grace
      ++ be 2 s.ecu.config.ackTime ++ be 2 s.ecu.config.minOpen
  | .dsc => be 1 s.dsc.level ++ flagByte s.dsc.lock ++ be 4 s.dsc.held.seq
  | .ssv | .cck | .tcu | .cvm => []

/-- A port takes READ_CONFIG (R198). -/
def serveReadConfig (p : PortId) (tag : Byte) (payload : List Byte) (s : State) : State :=
  s.serveWith p 0x10 tag payload (readEmpty payload)
    (fun _ o t => t.ask ⟨ReadKind.config.blocks, .read .config []⟩ o)

/-- A port takes WRITE_CONFIG_UNKNOWN_ITEM (R197): refused at hand-over, after check 8. -/
def serveWriteConfigUnknownItem (p : PortId) (tag : Byte) (payload : List Byte) (s : State) : State :=
  s.serve p 0x11 tag payload false (fun _ t => t)

/-! ## What the blocks answer (R198, R199, R201, R205) -/

/-- What a block answers to a read. -/
def State.readPart (s : State) : ReadKind → Block → List Byte
  | .status => s.statusPart
  | .live => s.livePart
  | .config => s.configPart

/-- What the blocks gave, with one block's answer added (R198, R199, R201, R205). -/
def Gathered.add (g : Gathered) (s : State) (b : Block) : Gathered :=
  match g with
  | .read k given => .read k (given ++ [(b, s.readPart k b)])
  | .latch d => .latch (s.contribute d b)

/-- The answer of one block among those given. -/
def givenBy (given : List (Block × List Byte)) (b : Block) : List Byte :=
  match given.find? fun e => e.1 == b with
  | some e => e.2
  | none => []

/-- The payload of a read from its blocks' answers, in the order of R219 and R209: IPU's thresholds follow ECU's items
(log 30). -/
def ReadKind.payload (k : ReadKind) (given : List (Block × List Byte)) : List Byte :=
  let g := givenBy given
  match k with
  | .status | .live => k.blocks.flatMap g
  | .config => g .mfp ++ g .nau ++ (g .ipu).take 3 ++ g .bfu ++ g .ecu ++ (g .ipu).drop 3 ++ g .dsc

/-- The port's own items in a read's answer, as they stand when it answers (R205, log 8). -/
def State.ownPart (s : State) (p : PortId) : ReadKind → List Byte
  | .status => (s.port p).status
  | .live | .config => []

/-- Every block asked has answered: the port answers the read, or its latch is HELD (R198, R199, R201, R205). -/
def State.concludeAsk (s : State) (o : Origin) : Gathered → State
  | .read k given => s.reply o .ok (k.payload given ++ s.ownPart o.port k)
  | .latch d => (s.setPort o.port { s.port o.port with latch := some d }).reply o .ok (be 1 0)

/-- A block takes a port's ask and answers with what it holds now, as one event (R198, R199, R201, R205). -/
def State.answerAsk (s : State) (p : PortId) (b : Block) : State :=
  match (s.port p).inProgress with
  | some r =>
    match r.asking with
    | some a =>
      if b ∈ a.waiting then
        let left := a.waiting.erase b
        let given := a.gathered.add s b
        if left = [] then s.concludeAsk ⟨p, r.serial⟩ given
        else s.setPort p { s.port p with inProgress := some { r with asking := some ⟨left, given⟩ } }
      else s
    | none => s
  | none => s

/-- The blocks that a port still waits for. -/
def Port.asked (x : Port) : List Block :=
  match x.inProgress with
  | some r =>
    match r.asking with
    | some a => a.waiting
    | none => []
  | none => []

/-- Every ask not yet answered: the port and the block asked. -/
def State.asks (s : State) : List (PortId × Block) :=
  [PortId.ulk, .slk, .opt].flatMap fun p => (s.port p).asked.map fun b => (p, b)

/-- One of the blocks asked answers, which one being a free value (log 8). -/
def State.answerOne (s : State) (first : PortId × Block) : State :=
  let e := s.asks.getD (Config.turn s.freeIndex % s.asks.length) first
  (s.setFreeIndex (s.freeIndex + 1)).answerAsk e.1 e.2

/-! ## Frames that are no request (R193) -/

/-- The port takes a frame with a code it does not know (R192, R193 check 3). -/
def State.refuseUnknown (s : State) (p : PortId) (code tag : Byte) (payload : List Byte) : State :=
  if !s.portsListen || decide (Config.maxPayload < payload.length) then s
  else s.respond p code tag (if (s.port p).inProgress.isSome then .busy else .badRequest)

end Sys2Proof.Machine
end

