-- ==== Sys2Proof/Machine/Requests.lean ====
section
/-! DEFINITION. From the bytes a port receives to the request it takes (R193, R207, R208), and the meaning of every request
command: its frame arrives whole, or, while the port collects another frame, as bytes of that one. -/

namespace Sys2Proof.Machine

/-! ## A frame collected is a request taken (R208, R209) -/

/-- A port takes a WRITE_CONFIG frame by the item it names (R197, R209). -/
def serveWriteConfig (p : PortId) (tag : Byte) (payload : List Byte) (s : State) : State :=
  match payload with
  | [] => serveWriteConfigUnknownItem p tag [] s
  | c :: value =>
    if knownItem (c :: value) then
      match c.toNat with
      | 1 => serveWriteConfigSlotMap p tag value s
      | 2 => serveWriteConfigNettingMode p tag value s
      | 3 => serveWriteConfigIntervalLength p tag value s
      | 4 => serveWriteConfigBillingDay p tag value s
      | 5 => serveWriteConfigStaticConnectionLimit p tag value s
      | 6 => serveWriteConfigExportTolerance p tag value s
      | 7 => serveWriteConfigGrace p tag value s
      | 8 => serveWriteConfigAcknowledgementTime p tag value s
      | 9 => serveWriteConfigMinimumOpenTime p tag value s
      | 10 => serveWriteConfigUtilityThreshold p tag value s
      | 11 => serveWriteConfigSiteThreshold p tag value s
      | _ => serveWriteConfigUnknownItem p tag (c :: value) s
    else serveWriteConfigUnknownItem p tag (c :: value) s

/-- A port takes a good frame by its request code (R193, R208). -/
def State.serveFrame (s : State) (p : PortId) (f : LinkFrame) : State :=
  match f.code.toNat with
  | 0x01 => serveReadStatus p f.tag f.payload s
  | 0x02 => serveReadAttention p f.tag f.payload s
  | 0x03 => serveSetAttentionMask p f.tag f.payload s
  | 0x04 => serveLatchRegisters p f.tag f.payload s
  | 0x05 => serveReadLatched p f.tag f.payload s
  | 0x06 => serveReleaseLatch p f.tag f.payload s
  | 0x07 => serveReadLive p f.tag f.payload s
  | 0x08 => serveEnableWrite p f.tag f.payload s
  | 0x10 => serveReadConfig p f.tag f.payload s
  | 0x11 => serveWriteConfig p f.tag f.payload s
  | 0x20 => serveReadTime p f.tag f.payload s
  | 0x21 => serveSetTime p f.tag f.payload s
  | 0x22 => serveAdjustTime p f.tag f.payload s
  | 0x30 => serveReadCalendar p f.tag f.payload s
  | 0x31 => serveBeginCalendar p f.tag f.payload s
  | 0x32 => serveLoadDayProfile p f.tag f.payload s
  | 0x33 => serveLoadWeek p f.tag f.payload s
  | 0x34 => serveLoadSpecialDay p f.tag f.payload s
  | 0x35 => serveCommitCalendar p f.tag f.payload s
  | 0x36 => serveAbortCalendar p f.tag f.payload s
  | 0x40 => serveReadProfile p f.tag f.payload s
  | 0x41 => serveAckProfile p f.tag f.payload s
  | 0x42 => serveReadProfileAt p f.tag f.payload s
  | 0x50 => serveFreeze p f.tag f.payload s
  | 0x51 => serveReadFrozen p f.tag f.payload s
  | 0x60 => servePostDirective p f.tag f.payload s
  | 0x61 => serveCancelDirective p f.tag f.payload s
  | 0x62 => serveUtilityHold p f.tag f.payload s
  | 0x63 => serveAckSetpoint p f.tag f.payload s
  | 0x64 => serveRecloseRequest p f.tag f.payload s
  | 0x65 => serveReadExportStatus p f.tag f.payload s
  | 0x66 => serveReadDirectives p f.tag f.payload s
  | 0x70 => serveClearRegisters p f.tag f.payload s
  | 0x71 => serveSetProtection p f.tag f.payload s
  | 0x72 => serveCloseCommissioning p f.tag f.payload s
  | 0x73 => serveReadIdentity p f.tag f.payload s
  | 0x74 => serveClearTamper p f.tag f.payload s
  | 0x75 => serveRestart p f.tag f.payload s
  | _ => s.refuseUnknown p f.code f.tag f.payload

/-! ## The bytes a port receives (R207) -/

/-- A port receives one byte: it is ignored, joins the frame under collection, or completes it, and a good frame is taken at
once (R193, R207). In HOLDUP the port discards what arrives, and in BACKUP it is without supply (R180, R183). -/
def State.receiveByte (s : State) (p : PortId) (b : Byte) : State :=
  if s.portsListen then
    let r := collectByte 0x7E#8 linkExtent (s.port p).collecting b
    (r.2.filterMap parseLinkFrame).foldl (fun t f => t.serveFrame p f)
      (s.setPort p { s.port p with collecting := r.1 })
  else s

/-- A port receives bytes, one after the other (R207). -/
def State.receiveBytes (s : State) (p : PortId) (bytes : List Byte) : State :=
  bytes.foldl (fun t b => t.receiveByte p b) s

/-- The frame of a request arrives. A port that collects no frame takes it whole; the bytes of one that comes while the port
collects another frame are data of that frame (R207). -/
def State.arrive (s : State) (p : PortId) (f : LinkFrame) (take : State → State) : State :=
  if (s.port p).collecting = [] then take s else s.receiveBytes p f.bytes

/-! ## The meaning of each request -/

/-- READ_STATUS (R205). -/
def execReadStatus (p : PortId) (tag : Byte) (payload : List Byte) (s : State) :
    Host.Outcome State Fault Refusal :=
  .next (s.arrive p ⟨0x01, tag, payload⟩ (serveReadStatus p tag payload))

/-- READ_ATTENTION (R203). -/
def execReadAttention (p : PortId) (tag : Byte) (payload : List Byte) (s : State) :
    Host.Outcome State Fault Refusal :=
  .next (s.arrive p ⟨0x02, tag, payload⟩ (serveReadAttention p tag payload))

/-- SET_ATTENTION_MASK (R204). -/
def execSetAttentionMask (p : PortId) (tag : Byte) (payload : List Byte) (s : State) :
    Host.Outcome State Fault Refusal :=
  .next (s.arrive p ⟨0x03, tag, payload⟩ (serveSetAttentionMask p tag payload))

/-- LATCH_REGISTERS (R199). -/
def execLatchRegisters (p : PortId) (tag : Byte) (payload : List Byte) (s : State) :
    Host.Outcome State Fault Refusal :=
  .next (s.arrive p ⟨0x04, tag, payload⟩ (serveLatchRegisters p tag payload))

/-- READ_LATCHED (R200). -/
def execReadLatched (p : PortId) (tag : Byte) (payload : List Byte) (s : State) :
    Host.Outcome State Fault Refusal :=
  .next (s.arrive p ⟨0x05, tag, payload⟩ (serveReadLatched p tag payload))

/-- RELEASE_LATCH (R200). -/
def execReleaseLatch (p : PortId) (tag : Byte) (payload : List Byte) (s : State) :
    Host.Outcome State Fault Refusal :=
  .next (s.arrive p ⟨0x06, tag, payload⟩ (serveReleaseLatch p tag payload))

/-- READ_LIVE (R201). -/
def execReadLive (p : PortId) (tag : Byte) (payload : List Byte) (s : State) :
    Host.Outcome State Fault Refusal :=
  .next (s.arrive p ⟨0x07, tag, payload⟩ (serveReadLive p tag payload))

/-- ENABLE_WRITE (R196). -/
def execEnableWrite (p : PortId) (tag : Byte) (payload : List Byte) (s : State) :
    Host.Outcome State Fault Refusal :=
  .next (s.arrive p ⟨0x08, tag, payload⟩ (serveEnableWrite p tag payload))

/-- READ_CONFIG (R198). -/
def execReadConfig (p : PortId) (tag : Byte) (payload : List Byte) (s : State) :
    Host.Outcome State Fault Refusal :=
  .next (s.arrive p ⟨0x10, tag, payload⟩ (serveReadConfig p tag payload))

/-- READ_TIME (R47). -/
def execReadTime (p : PortId) (tag : Byte) (payload : List Byte) (s : State) :
    Host.Outcome State Fault Refusal :=
  .next (s.arrive p ⟨0x20, tag, payload⟩ (serveReadTime p tag payload))

/-- SET_TIME (R48). -/
def execSetTime (p : PortId) (tag : Byte) (payload : List Byte) (s : State) :
    Host.Outcome State Fault Refusal :=
  .next (s.arrive p ⟨0x21, tag, payload⟩ (serveSetTime p tag payload))

/-- ADJUST_TIME (R49). -/
def execAdjustTime (p : PortId) (tag : Byte) (payload : List Byte) (s : State) :
    Host.Outcome State Fault Refusal :=
  .next (s.arrive p ⟨0x22, tag, payload⟩ (serveAdjustTime p tag payload))

/-- READ_CALENDAR (R75). -/
def execReadCalendar (p : PortId) (tag : Byte) (payload : List Byte) (s : State) :
    Host.Outcome State Fault Refusal :=
  .next (s.arrive p ⟨0x30, tag, payload⟩ (serveReadCalendar p tag payload))

/-- BEGIN_CALENDAR (R64). -/
def execBeginCalendar (p : PortId) (tag : Byte) (payload : List Byte) (s : State) :
    Host.Outcome State Fault Refusal :=
  .next (s.arrive p ⟨0x31, tag, payload⟩ (serveBeginCalendar p tag payload))

/-- LOAD_DAY_PROFILE (R66). -/
def execLoadDayProfile (p : PortId) (tag : Byte) (payload : List Byte) (s : State) :
    Host.Outcome State Fault Refusal :=
  .next (s.arrive p ⟨0x32, tag, payload⟩ (serveLoadDayProfile p tag payload))

/-- LOAD_WEEK (R67). -/
def execLoadWeek (p : PortId) (tag : Byte) (payload : List Byte) (s : State) :
    Host.Outcome State Fault Refusal :=
  .next (s.arrive p ⟨0x33, tag, payload⟩ (serveLoadWeek p tag payload))

/-- LOAD_SPECIAL_DAY (R68). -/
def execLoadSpecialDay (p : PortId) (tag : Byte) (payload : List Byte) (s : State) :
    Host.Outcome State Fault Refusal :=
  .next (s.arrive p ⟨0x34, tag, payload⟩ (serveLoadSpecialDay p tag payload))

/-- COMMIT_CALENDAR (R69). -/
def execCommitCalendar (p : PortId) (tag : Byte) (payload : List Byte) (s : State) :
    Host.Outcome State Fault Refusal :=
  .next (s.arrive p ⟨0x35, tag, payload⟩ (serveCommitCalendar p tag payload))

/-- ABORT_CALENDAR (R71). -/
def execAbortCalendar (p : PortId) (tag : Byte) (payload : List Byte) (s : State) :
    Host.Outcome State Fault Refusal :=
  .next (s.arrive p ⟨0x36, tag, payload⟩ (serveAbortCalendar p tag payload))

/-- READ_PROFILE (R98). -/
def execReadProfile (p : PortId) (tag : Byte) (payload : List Byte) (s : State) :
    Host.Outcome State Fault Refusal :=
  .next (s.arrive p ⟨0x40, tag, payload⟩ (serveReadProfile p tag payload))

/-- ACK_PROFILE (R99). -/
def execAckProfile (p : PortId) (tag : Byte) (payload : List Byte) (s : State) :
    Host.Outcome State Fault Refusal :=
  .next (s.arrive p ⟨0x41, tag, payload⟩ (serveAckProfile p tag payload))

/-- READ_PROFILE_AT (R102). -/
def execReadProfileAt (p : PortId) (tag : Byte) (payload : List Byte) (s : State) :
    Host.Outcome State Fault Refusal :=
  .next (s.arrive p ⟨0x42, tag, payload⟩ (serveReadProfileAt p tag payload))

/-- FREEZE (R112). -/
def execFreeze (p : PortId) (tag : Byte) (payload : List Byte) (s : State) :
    Host.Outcome State Fault Refusal :=
  .next (s.arrive p ⟨0x50, tag, payload⟩ (serveFreeze p tag payload))

/-- READ_FROZEN (R119). -/
def execReadFrozen (p : PortId) (tag : Byte) (payload : List Byte) (s : State) :
    Host.Outcome State Fault Refusal :=
  .next (s.arrive p ⟨0x51, tag, payload⟩ (serveReadFrozen p tag payload))

/-- POST_DIRECTIVE (R126). -/
def execPostDirective (p : PortId) (tag : Byte) (payload : List Byte) (s : State) :
    Host.Outcome State Fault Refusal :=
  .next (s.arrive p ⟨0x60, tag, payload⟩ (servePostDirective p tag payload))

/-- CANCEL_DIRECTIVE (R128). -/
def execCancelDirective (p : PortId) (tag : Byte) (payload : List Byte) (s : State) :
    Host.Outcome State Fault Refusal :=
  .next (s.arrive p ⟨0x61, tag, payload⟩ (serveCancelDirective p tag payload))

/-- ACK_SETPOINT (R136). -/
def execAckSetpoint (p : PortId) (tag : Byte) (payload : List Byte) (s : State) :
    Host.Outcome State Fault Refusal :=
  .next (s.arrive p ⟨0x63, tag, payload⟩ (serveAckSetpoint p tag payload))

/-- RECLOSE_REQUEST (R145). -/
def execRecloseRequest (p : PortId) (tag : Byte) (payload : List Byte) (s : State) :
    Host.Outcome State Fault Refusal :=
  .next (s.arrive p ⟨0x64, tag, payload⟩ (serveRecloseRequest p tag payload))

/-- READ_EXPORT_STATUS (R147). -/
def execReadExportStatus (p : PortId) (tag : Byte) (payload : List Byte) (s : State) :
    Host.Outcome State Fault Refusal :=
  .next (s.arrive p ⟨0x65, tag, payload⟩ (serveReadExportStatus p tag payload))

/-- READ_DIRECTIVES (R147). -/
def execReadDirectives (p : PortId) (tag : Byte) (payload : List Byte) (s : State) :
    Host.Outcome State Fault Refusal :=
  .next (s.arrive p ⟨0x66, tag, payload⟩ (serveReadDirectives p tag payload))

/-- CLEAR_REGISTERS (R20). -/
def execClearRegisters (p : PortId) (tag : Byte) (payload : List Byte) (s : State) :
    Host.Outcome State Fault Refusal :=
  .next (s.arrive p ⟨0x70, tag, payload⟩ (serveClearRegisters p tag payload))

/-- SET_PROTECTION (R168). -/
def execSetProtection (p : PortId) (tag : Byte) (payload : List Byte) (s : State) :
    Host.Outcome State Fault Refusal :=
  .next (s.arrive p ⟨0x71, tag, payload⟩ (serveSetProtection p tag payload))

/-- CLOSE_COMMISSIONING (R169). -/
def execCloseCommissioning (p : PortId) (tag : Byte) (payload : List Byte) (s : State) :
    Host.Outcome State Fault Refusal :=
  .next (s.arrive p ⟨0x72, tag, payload⟩ (serveCloseCommissioning p tag payload))

/-- READ_IDENTITY (R170). -/
def execReadIdentity (p : PortId) (tag : Byte) (payload : List Byte) (s : State) :
    Host.Outcome State Fault Refusal :=
  .next (s.arrive p ⟨0x73, tag, payload⟩ (serveReadIdentity p tag payload))

/-- CLEAR_TAMPER (R173). -/
def execClearTamper (p : PortId) (tag : Byte) (payload : List Byte) (s : State) :
    Host.Outcome State Fault Refusal :=
  .next (s.arrive p ⟨0x74, tag, payload⟩ (serveClearTamper p tag payload))

/-- RESTART (R186). -/
def execRestart (p : PortId) (tag : Byte) (payload : List Byte) (s : State) :
    Host.Outcome State Fault Refusal :=
  .next (s.arrive p ⟨0x75, tag, payload⟩ (serveRestart p tag payload))

/-- WRITE_CONFIG_SLOT_MAP (R37, R197): the payload is item code 1 and the value. -/
def execWriteConfigSlotMap (p : PortId) (tag : Byte) (value : List Byte) (s : State) :
    Host.Outcome State Fault Refusal :=
  .next (s.arrive p ⟨0x11, tag, 1 :: value⟩ (serveWriteConfigSlotMap p tag value))

/-- WRITE_CONFIG_NETTING_MODE (R14, R197): the payload is item code 2 and the value. -/
def execWriteConfigNettingMode (p : PortId) (tag : Byte) (value : List Byte) (s : State) :
    Host.Outcome State Fault Refusal :=
  .next (s.arrive p ⟨0x11, tag, 2 :: value⟩ (serveWriteConfigNettingMode p tag value))

/-- WRITE_CONFIG_INTERVAL_LENGTH (R90, R197): the payload is item code 3 and the value. -/
def execWriteConfigIntervalLength (p : PortId) (tag : Byte) (value : List Byte) (s : State) :
    Host.Outcome State Fault Refusal :=
  .next (s.arrive p ⟨0x11, tag, 3 :: value⟩ (serveWriteConfigIntervalLength p tag value))

/-- WRITE_CONFIG_BILLING_DAY (R117, R197): the payload is item code 4 and the value. -/
def execWriteConfigBillingDay (p : PortId) (tag : Byte) (value : List Byte) (s : State) :
    Host.Outcome State Fault Refusal :=
  .next (s.arrive p ⟨0x11, tag, 4 :: value⟩ (serveWriteConfigBillingDay p tag value))

/-- WRITE_CONFIG_STATIC_CONNECTION_LIMIT (R134, R197): the payload is item code 5 and the value. -/
def execWriteConfigStaticConnectionLimit (p : PortId) (tag : Byte) (value : List Byte) (s : State) :
    Host.Outcome State Fault Refusal :=
  .next (s.arrive p ⟨0x11, tag, 5 :: value⟩ (serveWriteConfigStaticConnectionLimit p tag value))

/-- WRITE_CONFIG_EXPORT_TOLERANCE (R134, R197): the payload is item code 6 and the value. -/
def execWriteConfigExportTolerance (p : PortId) (tag : Byte) (value : List Byte) (s : State) :
    Host.Outcome State Fault Refusal :=
  .next (s.arrive p ⟨0x11, tag, 6 :: value⟩ (serveWriteConfigExportTolerance p tag value))

/-- WRITE_CONFIG_GRACE (R134, R197): the payload is item code 7 and the value. -/
def execWriteConfigGrace (p : PortId) (tag : Byte) (value : List Byte) (s : State) :
    Host.Outcome State Fault Refusal :=
  .next (s.arrive p ⟨0x11, tag, 7 :: value⟩ (serveWriteConfigGrace p tag value))

/-- WRITE_CONFIG_ACKNOWLEDGEMENT_TIME (R134, R197): the payload is item code 8 and the value. -/
def execWriteConfigAcknowledgementTime (p : PortId) (tag : Byte) (value : List Byte) (s : State) :
    Host.Outcome State Fault Refusal :=
  .next (s.arrive p ⟨0x11, tag, 8 :: value⟩ (serveWriteConfigAcknowledgementTime p tag value))

/-- WRITE_CONFIG_MINIMUM_OPEN_TIME (R134, R197): the payload is item code 9 and the value. -/
def execWriteConfigMinimumOpenTime (p : PortId) (tag : Byte) (value : List Byte) (s : State) :
    Host.Outcome State Fault Refusal :=
  .next (s.arrive p ⟨0x11, tag, 9 :: value⟩ (serveWriteConfigMinimumOpenTime p tag value))

/-- WRITE_CONFIG_UTILITY_THRESHOLD (R101, R197): the payload is item code 10 and the value. -/
def execWriteConfigUtilityThreshold (p : PortId) (tag : Byte) (value : List Byte) (s : State) :
    Host.Outcome State Fault Refusal :=
  .next (s.arrive p ⟨0x11, tag, 10 :: value⟩ (serveWriteConfigUtilityThreshold p tag value))

/-- WRITE_CONFIG_SITE_THRESHOLD (R101, R197): the payload is item code 11 and the value. -/
def execWriteConfigSiteThreshold (p : PortId) (tag : Byte) (value : List Byte) (s : State) :
    Host.Outcome State Fault Refusal :=
  .next (s.arrive p ⟨0x11, tag, 11 :: value⟩ (serveWriteConfigSiteThreshold p tag value))

/-- WRITE_CONFIG_UNKNOWN_ITEM (R197). -/
def execWriteConfigUnknownItem (p : PortId) (tag : Byte) (payload : List Byte) (s : State) :
    Host.Outcome State Fault Refusal :=
  if knownItem payload then .refused .illFormed
  else .next (s.arrive p ⟨0x11, tag, payload⟩ (serveWriteConfigUnknownItem p tag payload))

/-- UTILITY_HOLD_ON (R146): a UTILITY_HOLD frame whose byte is not OFF. -/
def execUtilityHoldOn (p : PortId) (tag : Byte) (payload : List Byte) (s : State) :
    Host.Outcome State Fault Refusal :=
  if payload = [0] then .refused .illFormed
  else .next (s.arrive p ⟨0x62, tag, payload⟩ (serveUtilityHold p tag payload))

/-- UTILITY_HOLD_OFF (R146): a UTILITY_HOLD frame whose byte is not ON. -/
def execUtilityHoldOff (p : PortId) (tag : Byte) (payload : List Byte) (s : State) :
    Host.Outcome State Fault Refusal :=
  if payload = [1] then .refused .illFormed
  else .next (s.arrive p ⟨0x62, tag, payload⟩ (serveUtilityHold p tag payload))

/-- UNKNOWN_REQUEST_CODE (R193). -/
def execUnknownRequestCode (p : PortId) (code tag : Byte) (payload : List Byte) (s : State) :
    Host.Outcome State Fault Refusal :=
  if knownCode code then .refused .illFormed
  else .next (s.arrive p ⟨code, tag, payload⟩ fun t => t.refuseUnknown p code tag payload)

/-- LINK_FRAME_DISCARDED (R193, R207): bytes that a port receives; a frame that fails check 1 has no response, and one still
unfinished stays under collection. -/
def execLinkFrameDiscarded (p : PortId) (bytes : List Byte) (s : State) : Host.Outcome State Fault Refusal :=
  .next (s.receiveBytes p bytes)

end Sys2Proof.Machine
end

