-- ==== Sys2Proof/Machine/Dispatch.lean ====
section
/-! DEFINITION. What each command does: one direct call of its meaning. -/

namespace Sys2Proof.Machine

/-- The effect of a command on everything but the queue. -/
def exec (i : Instr) (s : State) : Host.Outcome State Fault Refusal :=
  match i with
  | .readStatus p tag payload => Sys2Proof.Machine.execReadStatus p tag payload s
  | .readAttention p tag payload => Sys2Proof.Machine.execReadAttention p tag payload s
  | .setAttentionMask p tag payload => Sys2Proof.Machine.execSetAttentionMask p tag payload s
  | .latchRegisters p tag payload => Sys2Proof.Machine.execLatchRegisters p tag payload s
  | .readLatched p tag payload => Sys2Proof.Machine.execReadLatched p tag payload s
  | .releaseLatch p tag payload => Sys2Proof.Machine.execReleaseLatch p tag payload s
  | .readLive p tag payload => Sys2Proof.Machine.execReadLive p tag payload s
  | .enableWrite p tag payload => Sys2Proof.Machine.execEnableWrite p tag payload s
  | .readConfig p tag payload => Sys2Proof.Machine.execReadConfig p tag payload s
  | .writeConfigSlotMap p tag payload => Sys2Proof.Machine.execWriteConfigSlotMap p tag payload s
  | .writeConfigNettingMode p tag payload => Sys2Proof.Machine.execWriteConfigNettingMode p tag payload s
  | .writeConfigIntervalLength p tag payload => Sys2Proof.Machine.execWriteConfigIntervalLength p tag payload s
  | .writeConfigBillingDay p tag payload => Sys2Proof.Machine.execWriteConfigBillingDay p tag payload s
  | .writeConfigStaticConnectionLimit p tag payload => Sys2Proof.Machine.execWriteConfigStaticConnectionLimit p tag payload s
  | .writeConfigExportTolerance p tag payload => Sys2Proof.Machine.execWriteConfigExportTolerance p tag payload s
  | .writeConfigGrace p tag payload => Sys2Proof.Machine.execWriteConfigGrace p tag payload s
  | .writeConfigAcknowledgementTime p tag payload => Sys2Proof.Machine.execWriteConfigAcknowledgementTime p tag payload s
  | .writeConfigMinimumOpenTime p tag payload => Sys2Proof.Machine.execWriteConfigMinimumOpenTime p tag payload s
  | .writeConfigUtilityThreshold p tag payload => Sys2Proof.Machine.execWriteConfigUtilityThreshold p tag payload s
  | .writeConfigSiteThreshold p tag payload => Sys2Proof.Machine.execWriteConfigSiteThreshold p tag payload s
  | .writeConfigUnknownItem p tag payload => Sys2Proof.Machine.execWriteConfigUnknownItem p tag payload s
  | .readTime p tag payload => Sys2Proof.Machine.execReadTime p tag payload s
  | .setTime p tag payload => Sys2Proof.Machine.execSetTime p tag payload s
  | .adjustTime p tag payload => Sys2Proof.Machine.execAdjustTime p tag payload s
  | .readCalendar p tag payload => Sys2Proof.Machine.execReadCalendar p tag payload s
  | .beginCalendar p tag payload => Sys2Proof.Machine.execBeginCalendar p tag payload s
  | .loadDayProfile p tag payload => Sys2Proof.Machine.execLoadDayProfile p tag payload s
  | .loadWeek p tag payload => Sys2Proof.Machine.execLoadWeek p tag payload s
  | .loadSpecialDay p tag payload => Sys2Proof.Machine.execLoadSpecialDay p tag payload s
  | .commitCalendar p tag payload => Sys2Proof.Machine.execCommitCalendar p tag payload s
  | .abortCalendar p tag payload => Sys2Proof.Machine.execAbortCalendar p tag payload s
  | .readProfile p tag payload => Sys2Proof.Machine.execReadProfile p tag payload s
  | .ackProfile p tag payload => Sys2Proof.Machine.execAckProfile p tag payload s
  | .readProfileAt p tag payload => Sys2Proof.Machine.execReadProfileAt p tag payload s
  | .freeze p tag payload => Sys2Proof.Machine.execFreeze p tag payload s
  | .readFrozen p tag payload => Sys2Proof.Machine.execReadFrozen p tag payload s
  | .postDirective p tag payload => Sys2Proof.Machine.execPostDirective p tag payload s
  | .cancelDirective p tag payload => Sys2Proof.Machine.execCancelDirective p tag payload s
  | .utilityHoldOn p tag payload => Sys2Proof.Machine.execUtilityHoldOn p tag payload s
  | .utilityHoldOff p tag payload => Sys2Proof.Machine.execUtilityHoldOff p tag payload s
  | .ackSetpoint p tag payload => Sys2Proof.Machine.execAckSetpoint p tag payload s
  | .recloseRequest p tag payload => Sys2Proof.Machine.execRecloseRequest p tag payload s
  | .readExportStatus p tag payload => Sys2Proof.Machine.execReadExportStatus p tag payload s
  | .readDirectives p tag payload => Sys2Proof.Machine.execReadDirectives p tag payload s
  | .clearRegisters p tag payload => Sys2Proof.Machine.execClearRegisters p tag payload s
  | .setProtection p tag payload => Sys2Proof.Machine.execSetProtection p tag payload s
  | .closeCommissioning p tag payload => Sys2Proof.Machine.execCloseCommissioning p tag payload s
  | .readIdentity p tag payload => Sys2Proof.Machine.execReadIdentity p tag payload s
  | .clearTamper p tag payload => Sys2Proof.Machine.execClearTamper p tag payload s
  | .restart p tag payload => Sys2Proof.Machine.execRestart p tag payload s
  | .unknownRequestCode p code tag payload => Sys2Proof.Machine.execUnknownRequestCode p code tag payload s
  | .linkFrameDiscarded p bytes => Sys2Proof.Machine.execLinkFrameDiscarded p bytes s
  | .measurementFrame bytes => Sys2Proof.Machine.execMeasurementFrame bytes s
  | .frameDeadlineExpiry => Sys2Proof.Machine.execFrameDeadlineExpiry s
  | .nauEpochIncrement => Sys2Proof.Machine.execNauEpochIncrement s
  | .ecuEpochIncrement => Sys2Proof.Machine.execEcuEpochIncrement s
  | .ipuSplitIncrement => Sys2Proof.Machine.execIpuSplitIncrement s
  | .ipuMissedEpochReport => Sys2Proof.Machine.execIpuMissedEpochReport s
  | .ecuMfpStateReport => Sys2Proof.Machine.execEcuMfpStateReport s
  | .nauIntervalClose => Sys2Proof.Machine.execNauIntervalClose s
  | .mfpIntervalClose => Sys2Proof.Machine.execMfpIntervalClose s
  | .nauDemandReport => Sys2Proof.Machine.execNauDemandReport s
  | .clockAdvance => Sys2Proof.Machine.execClockAdvance s
  | .ipuDueEvent => Sys2Proof.Machine.execIpuDueEvent s
  | .tcuDueEvent => Sys2Proof.Machine.execTcuDueEvent s
  | .bfuDueEvent => Sys2Proof.Machine.execBfuDueEvent s
  | .ecuDueEvent => Sys2Proof.Machine.execEcuDueEvent s
  | .ipuChangeNotice => Sys2Proof.Machine.execIpuChangeNotice s
  | .tcuChangeNotice => Sys2Proof.Machine.execTcuChangeNotice s
  | .bfuChangeNotice => Sys2Proof.Machine.execBfuChangeNotice s
  | .ecuChangeNotice => Sys2Proof.Machine.execEcuChangeNotice s
  | .ipuBandNotice => Sys2Proof.Machine.execIpuBandNotice s
  | .ipuActivationNotice => Sys2Proof.Machine.execIpuActivationNotice s
  | .ipuInterlockReport => Sys2Proof.Machine.execIpuInterlockReport s
  | .ipuTamperReport => Sys2Proof.Machine.execIpuTamperReport s
  | .tcuIntervalLengthReport => Sys2Proof.Machine.execTcuIntervalLengthReport s
  | .sessionTimerExpiry => Sys2Proof.Machine.execSessionTimerExpiry s
  | .coverOpening => Sys2Proof.Machine.execCoverOpening s
  | .coverClosing => Sys2Proof.Machine.execCoverClosing s
  | .portCoverReport => Sys2Proof.Machine.execPortCoverReport s
  | .attentionReport p m => Sys2Proof.Machine.execAttentionReport p m s
  | .arrayGrant => Sys2Proof.Machine.execArrayGrant s
  | .unitImagePart u => Sys2Proof.Machine.execUnitImagePart u s
  | .operationCompletion r => Sys2Proof.Machine.execOperationCompletion r s
  | .profileAppendSettled => Sys2Proof.Machine.execProfileAppendSettled s
  | .profileEraseGrant => Sys2Proof.Machine.execProfileEraseGrant s
  | .profileEraseOutcome => Sys2Proof.Machine.execProfileEraseOutcome s
  | .profileReadCompletion => Sys2Proof.Machine.execProfileReadCompletion s
  | .frozenSetWriteCompletion => Sys2Proof.Machine.execFrozenSetWriteCompletion s
  | .frozenSetWriteRefusal => Sys2Proof.Machine.execFrozenSetWriteRefusal s
  | .frozenSetEraseGrant => Sys2Proof.Machine.execFrozenSetEraseGrant s
  | .frozenSetEraseOutcome => Sys2Proof.Machine.execFrozenSetEraseOutcome s
  | .frozenReadCompletion => Sys2Proof.Machine.execFrozenReadCompletion s
  | .calendarDiscardEraseOutcome => Sys2Proof.Machine.execCalendarDiscardEraseOutcome s
  | .calendarCommitWriteOutcome => Sys2Proof.Machine.execCalendarCommitWriteOutcome s
  | .nettingModeWriteCompletion => Sys2Proof.Machine.execNettingModeWriteCompletion s
  | .slotMapWriteCompletion => Sys2Proof.Machine.execSlotMapWriteCompletion s
  | .intervalLengthWriteCompletion => Sys2Proof.Machine.execIntervalLengthWriteCompletion s
  | .intervalLengthRestoreCompletion => Sys2Proof.Machine.execIntervalLengthRestoreCompletion s
  | .billingDayWriteCompletion => Sys2Proof.Machine.execBillingDayWriteCompletion s
  | .ecuConfigWriteCompletion => Sys2Proof.Machine.execEcuConfigWriteCompletion s
  | .thresholdWriteCompletion => Sys2Proof.Machine.execThresholdWriteCompletion s
  | .protectionWriteCompletion => Sys2Proof.Machine.execProtectionWriteCompletion s
  | .lifecycleMarkCompletion => Sys2Proof.Machine.execLifecycleMarkCompletion s
  | .commandedImageCompletion => Sys2Proof.Machine.execCommandedImageCompletion s
  | .mainsGood => Sys2Proof.Machine.execMainsGood s
  | .mainsFail => Sys2Proof.Machine.execMainsFail s
  | .holdupCommitEnd => Sys2Proof.Machine.execHoldupCommitEnd s
  | .supplyEnd => Sys2Proof.Machine.execSupplyEnd s
  | .gatingTimerExpiry => Sys2Proof.Machine.execGatingTimerExpiry s
  | .externalReset => Sys2Proof.Machine.execExternalReset s
  | .resumption => Sys2Proof.Machine.execResumption s
  | .ipuResumption => Sys2Proof.Machine.execIpuResumption s
  | .tcuResumption => Sys2Proof.Machine.execTcuResumption s
  | .bfuResumption => Sys2Proof.Machine.execBfuResumption s
  | .ecuResumption => Sys2Proof.Machine.execEcuResumption s
  | .serviceEntry => Sys2Proof.Machine.execServiceEntry s
  | .cvmResumption => Sys2Proof.Machine.execCvmResumption s
  | .retentionMarkLost => Sys2Proof.Machine.execRetentionMarkLost s

end Sys2Proof.Machine
end

