-- ==== Sys2Proof/Machine/Step.lean ====
section
/-! DEFINITION. One step of the part: the command at the front of the queue, or, on an empty queue, a block's answer to an ask
or a millisecond (log 3, 8, 23). -/

namespace Sys2Proof.Machine

/-- One millisecond of MFP's timer in MAINS; a deadline reached expires (R32). -/
def State.tickFrames (s : State) : State :=
  if s.onMains then
    let t := s.setMfp { s.mfp with timer := s.mfp.timer + Config.tickMs }
    match t.mfp.deadline with
    | some d => if d ≤ t.mfp.timer then t.expireDeadline else t
    | none => t
  else s

/-- One millisecond of a running session timer in MAINS (R65, R72, R78). -/
def State.tickSession (s : State) : State :=
  match s.tcu.sessionMs with
  | some n =>
    if s.onMains then
      if n ≤ Config.tickMs then s.expireSession
      else s.setTcu { s.tcu with sessionMs := some (n - Config.tickMs) }
    else s
  | none => s

/-- One millisecond of the start-gating timer in START (R178). -/
def State.tickGating (s : State) : State :=
  match s.ssv.gatingMs with
  | some n =>
    if s.ssv.supply = .start ∧ s.ssv.phase = some .gating ∧ s.ssv.mainsGood = true then
      if Config.gatingMs ≤ n + Config.tickMs then s.endGating
      else s.setSsv { s.ssv with gatingMs := some (n + Config.tickMs) }
    else s
  | none => s

/-- One millisecond of the second phase where the clock runs (R43, R53). -/
def State.tickClock (s : State) : State :=
  if s.clockRuns then
    if 1000 ≤ s.cck.phaseMs + Config.tickMs then s.advanceClock
    else s.setCck { s.cck with phaseMs := s.cck.phaseMs + Config.tickMs }
  else s

/-- One millisecond of the part (log 3). -/
def State.tick (s : State) : State := s.tickClock.tickFrames.tickSession.tickGating

/-- The part with no command waiting: one of the blocks that a port has asked answers, or, with no ask outstanding, a
millisecond passes (log 3, 8). -/
def State.idle (s : State) : State :=
  match s.asks with
  | [] => s.tick
  | e :: _ => s.answerOne e

/-- One step: the command at the front of the queue, or what the part does by itself when none waits (log 3, 8, 23). -/
def step (s : State) : Host.Outcome State Fault Refusal :=
  match s.pending with
  | c :: rest => exec c (s.setPending rest)
  | [] => .next s.idle

/-- The state with the command a word spells put at the front of the queue; no word spells one. -/
def State.withFetchWord (s : State) (nbits w : Nat) : State :=
  match decodeTableWord nbits w with
  | some c => s.setPending (c :: s.pending)
  | none => s

end Sys2Proof.Machine
end

