-- ==== Sys2Proof/WellFormed.lean ====
section
/-! DEFINITION. Which terms of Instr are commands of their row: one check for each way an operand makes a term another row's
or no frame at all (log 24). -/

namespace Sys2Proof

/-- A payload fits a link frame (R207). -/
def fitsFrame (payload : List Byte) : Bool := decide (payload.length ≤ Config.maxPayload)

/-- A value of a known configuration item has the item's length (R209). -/
def fitsItem (code : Nat) (value : List Byte) : Bool := Machine.itemLength code == some value.length

/-- The term is a command of its row. -/
def Instr.wellFormed : Instr → Bool
  | .readStatus _ _ pl | .readAttention _ _ pl | .setAttentionMask _ _ pl | .latchRegisters _ _ pl
  | .readLatched _ _ pl | .releaseLatch _ _ pl | .readLive _ _ pl | .enableWrite _ _ pl | .readConfig _ _ pl
  | .readTime _ _ pl | .setTime _ _ pl | .adjustTime _ _ pl | .readCalendar _ _ pl | .beginCalendar _ _ pl
  | .loadDayProfile _ _ pl | .loadWeek _ _ pl | .loadSpecialDay _ _ pl | .commitCalendar _ _ pl
  | .abortCalendar _ _ pl | .readProfile _ _ pl | .ackProfile _ _ pl | .readProfileAt _ _ pl | .freeze _ _ pl
  | .readFrozen _ _ pl | .postDirective _ _ pl | .cancelDirective _ _ pl | .ackSetpoint _ _ pl
  | .recloseRequest _ _ pl | .readExportStatus _ _ pl | .readDirectives _ _ pl | .clearRegisters _ _ pl
  | .setProtection _ _ pl | .closeCommissioning _ _ pl | .readIdentity _ _ pl | .clearTamper _ _ pl
  | .restart _ _ pl => fitsFrame pl
  | .writeConfigSlotMap _ _ v => fitsItem 1 v
  | .writeConfigNettingMode _ _ v => fitsItem 2 v
  | .writeConfigIntervalLength _ _ v => fitsItem 3 v
  | .writeConfigBillingDay _ _ v => fitsItem 4 v
  | .writeConfigStaticConnectionLimit _ _ v => fitsItem 5 v
  | .writeConfigExportTolerance _ _ v => fitsItem 6 v
  | .writeConfigGrace _ _ v => fitsItem 7 v
  | .writeConfigAcknowledgementTime _ _ v => fitsItem 8 v
  | .writeConfigMinimumOpenTime _ _ v => fitsItem 9 v
  | .writeConfigUtilityThreshold _ _ v => fitsItem 10 v
  | .writeConfigSiteThreshold _ _ v => fitsItem 11 v
  | .writeConfigUnknownItem _ _ pl => fitsFrame pl && !Machine.knownItem pl
  | .utilityHoldOn _ _ pl => fitsFrame pl && pl != [0]
  | .utilityHoldOff _ _ pl => fitsFrame pl && pl != [1]
  | .unknownRequestCode _ code _ pl => fitsFrame pl && !Machine.knownCode code
  | .linkFrameDiscarded _ bytes => decide (Machine.linkFrames bytes = [])
  | .measurementFrame _ | .frameDeadlineExpiry | .nauEpochIncrement | .ecuEpochIncrement | .ipuSplitIncrement
  | .ipuMissedEpochReport | .ecuMfpStateReport | .nauIntervalClose | .mfpIntervalClose | .nauDemandReport
  | .clockAdvance | .ipuDueEvent | .tcuDueEvent | .bfuDueEvent | .ecuDueEvent | .ipuChangeNotice | .tcuChangeNotice
  | .bfuChangeNotice | .ecuChangeNotice | .ipuBandNotice | .ipuActivationNotice | .ipuInterlockReport
  | .ipuTamperReport | .tcuIntervalLengthReport | .sessionTimerExpiry | .coverOpening | .coverClosing
  | .portCoverReport | .attentionReport _ _ | .arrayGrant | .unitImagePart _ | .operationCompletion _
  | .profileAppendSettled | .profileEraseGrant | .profileEraseOutcome | .profileReadCompletion
  | .frozenSetWriteCompletion | .frozenSetWriteRefusal | .frozenSetEraseGrant | .frozenSetEraseOutcome
  | .frozenReadCompletion | .calendarDiscardEraseOutcome | .calendarCommitWriteOutcome
  | .nettingModeWriteCompletion | .slotMapWriteCompletion | .intervalLengthWriteCompletion
  | .intervalLengthRestoreCompletion | .billingDayWriteCompletion | .ecuConfigWriteCompletion
  | .thresholdWriteCompletion | .protectionWriteCompletion | .lifecycleMarkCompletion | .commandedImageCompletion
  | .mainsGood | .mainsFail | .holdupCommitEnd | .supplyEnd | .gatingTimerExpiry | .externalReset | .resumption
  | .ipuResumption | .tcuResumption | .bfuResumption | .ecuResumption | .serviceEntry | .cvmResumption
  | .retentionMarkLost => true

end Sys2Proof
end

