-- ==== Sys2Proof/Safety.lean ====
section
/-! DEFINITION. The vocabulary of the statements: when a port admits a request, what an answered and a begun request leave,
the quantities of an epoch, and the invariants that every step keeps. -/

namespace Sys2Proof.Machine

/-! ## Requests -/

/-- A request frame that the port hands to its owner: in MAINS, no request in progress, a payload that fits a frame, checks
4 to 8 passed (R192, R193), and no other frame under collection (R207). -/
def Admitted (s : State) (p : PortId) (code : Byte) (payload : List Byte) : Prop :=
  s.ssv.supply = .mains ∧ (s.port p).inProgress = none ∧ payload.length ≤ 1024 ∧ portRefusal s p code payload = none
  ∧ (s.port p).collecting = []

/-- The state after an admitted request answered at once: the port IDLE again, its response sent, its serial number spent,
and its write-enable latch cleared where the request is a protected one (R192, R196). Nothing else differs from `s`. -/
def answered (s : State) (p : PortId) (code tag : Byte) (res : Result) (payload : List Byte) : State :=
  s.setPort p
    { s.port p with
      inProgress := none
      serial := (s.port p).serial + 1
      sent := some ⟨code, tag, res, payload⟩
      writeEnable := (s.port p).writeEnable && !protectedCode code }

/-- The state while an admitted request waits for its owner: the port SERVING (R192). Nothing else differs from `s`. -/
def waiting (s : State) (p : PortId) (code tag : Byte) : State :=
  s.setPort p
    { s.port p with
      inProgress := some ⟨code, tag, (s.port p).serial + 1, none⟩
      serial := (s.port p).serial + 1 }

/-- The state while an admitted request waits for the blocks that its port has asked (R192, R198). Nothing else differs from
`s`. -/
def gathering (s : State) (p : PortId) (code tag : Byte) (blocks : List Block) (given : Gathered) : State :=
  s.setPort p
    { s.port p with
      inProgress := some ⟨code, tag, (s.port p).serial + 1, some ⟨blocks, given⟩⟩
      serial := (s.port p).serial + 1 }

/-- The origin of the request that a port admits next. -/
def nextOrigin (s : State) (p : PortId) : Origin := ⟨p, (s.port p).serial + 1⟩

/-- The state after an owner's answer to the request in progress at a port. Nothing else differs from `s`. -/
def settledAt (s : State) (o : Origin) (r : PortRequest) (res : Result) (payload : List Byte) : State :=
  s.setPort o.port
    { s.port o.port with
      inProgress := none
      sent := some ⟨r.code, r.tag, res, payload⟩
      writeEnable := (s.port o.port).writeEnable && !protectedCode r.code }

/-- A store request as a client places it at DSC: behind every request of its priority or a higher one (R155). Nothing else
differs from `s`. -/
def placed (s : State) (c : Client) (ops : List ArrayOp) (built : Bool) : State :=
  { s with dsc :=
    { s.dsc with
      nextId := s.dsc.nextId + 1
      queue := insertRequest ⟨s.dsc.nextId, c.priority, c, ops, built, false, [], none⟩ s.dsc.queue } }

/-- What DSC does with a request that writes or erases: placed, or in FAULT refused to its client at once (R155, R158). -/
def asked (s : State) (c : Client) (ops : List ArrayOp) (built : Bool) : State :=
  if s.dsc.fault then { s with mail := { s.mail with store := s.mail.store ++ [⟨c, .refused, [], none⟩] } }
  else placed s c ops built

/-- The oldest report of DSC in transit to a unit, with the others (log 6). -/
def Delivers (s : State) (u : Receiver) (m : StoreMail) (rest : List StoreMail) : Prop :=
  takeFirst (fun x => x.client.receiver == u) s.mail.store = some (m, rest)

/-- The state with the reports of DSC in transit replaced. -/
def withStoreMail (s : State) (rest : List StoreMail) : State := { s with mail := { s.mail with store := rest } }

/-- An owner's answer to a request it was handed before: sent when the port still waits for it, dropped when HOLDUP or a
restart abandoned the request (R180, R192). -/
def concluded (s : State) (o : Origin) (res : Result) (payload : List Byte) : State :=
  match (s.port o.port).inProgress with
  | some r => if r.serial = o.serial then settledAt s o r res payload else s
  | none => s

/-- IPU's hand-over of the head of its append queue, when nothing is handed and no erase-ahead is outstanding (R94). -/
def handOver (s : State) : State :=
  match s.ipu.queue with
  | r :: _ =>
    if s.ipu.handed = false ∧ s.ipu.erase = .idle then
      asked { s with ipu := { s.ipu with handed := true } } .append [.program (.intervalRecord s.ipu.writePos r)] true
    else s
  | [] => s

/-- BFU's hand-over of its captured set, when it is not handed and no erase-ahead is outstanding (R110 step 6). -/
def handSet (s : State) : State :=
  match s.bfu.captured with
  | some f =>
    if s.bfu.handed = false ∧ s.bfu.erase = .idle then
      asked { s with bfu := { s.bfu with handed := true } } .frozenWrite
        [.program (.frozenBody s.bfu.writePos), .program (.frozenMarker s.bfu.writePos f)] true
    else s
  | none => s

/-- The set that a freeze taken now captures (R109, R110). -/
def setNow (s : State) (cause : FreezeCause) (date : Option Date) : FrozenSet :=
  { number := s.bfu.counter + 1, time := s.cck.time, gen := s.cck.gen, cause := cause, billingDate := date
    timeInvalid := !s.cck.valid, calendarId := s.nau.table.calendarId
    regs := s.nau.table.regs, demands := s.nau.table.demands }

/-- A freeze taken: the counter, the captured set, NAU's max-demand entries emptied, and the hand-over (R17, R110). -/
def freezeTaken (s : State) (cause : FreezeCause) (date : Option Date) : State :=
  handSet
    { s with
      nau := { s.nau with table := { s.nau.table with demands := .empty } }
      bfu := { s.bfu with counter := s.bfu.counter + 1, captured := some (setNow s cause date) } }

/-- BFU's slot armed, or disarmed with `none`, with no time at or before the present one (R51). -/
def armedBfu (s : State) (t : Option Nat) : State := { s with cck := { s.cck with due := { s.cck.due with bfu := t } } }

/-- BFU's slot armed, or disarmed with `none`. A time at or before the present one gives BFU its due event at once and leaves
the slot absent (R51, R111); the test waits while a change notice for BFU does (R52, log 17). -/
def rearmedBfu (s : State) (t : Option Nat) (how : Reached) : State :=
  match t with
  | some x =>
    if x ≤ s.cck.time ∧ s.noticeWaits .bfu = false then
      { armedBfu s none with
        mail := { s.mail with clockBfu := s.mail.clockBfu ++ [.due ⟨x, s.cck.time, s.cck.gen, how⟩] } }
    else armedBfu s (some x)
  | none => armedBfu s none

/-- BFU's slot armed, or disarmed with `none`, while BFU takes a message of CCK. With no change notice left in line it is
armed as at any other time. Where the notice of a later change waits, a time reached before that change gives BFU its due
event ahead of that notice and leaves the slot absent (R52, log 17). -/
def rearmedInTurn (s : State) (t : Option Nat) (how : Reached) : State :=
  match t, firstNotice s.mail.clockBfu with
  | _, none => rearmedBfu s t how
  | none, some _ => armedBfu s none
  | some x, some n =>
    if x ≤ n.oldTime then
      { armedBfu s none with
        mail := { s.mail with clockBfu := aheadOfNotice (.due ⟨x, n.oldTime, n.oldGen, how⟩) s.mail.clockBfu } }
    else armedBfu s (some x)

/-- A request frame as a port collects it. -/
structure RequestFrame where
  port : PortId
  code : Byte
  tag : Byte
  payload : List Byte
deriving DecidableEq, Repr

/-- The request frame of a command that is a known request (R208, R209). -/
def frameOf : Instr → Option RequestFrame
  | .readStatus p tag pl => some ⟨p, 0x01, tag, pl⟩
  | .readAttention p tag pl => some ⟨p, 0x02, tag, pl⟩
  | .setAttentionMask p tag pl => some ⟨p, 0x03, tag, pl⟩
  | .latchRegisters p tag pl => some ⟨p, 0x04, tag, pl⟩
  | .readLatched p tag pl => some ⟨p, 0x05, tag, pl⟩
  | .releaseLatch p tag pl => some ⟨p, 0x06, tag, pl⟩
  | .readLive p tag pl => some ⟨p, 0x07, tag, pl⟩
  | .enableWrite p tag pl => some ⟨p, 0x08, tag, pl⟩
  | .readConfig p tag pl => some ⟨p, 0x10, tag, pl⟩
  | .readTime p tag pl => some ⟨p, 0x20, tag, pl⟩
  | .setTime p tag pl => some ⟨p, 0x21, tag, pl⟩
  | .adjustTime p tag pl => some ⟨p, 0x22, tag, pl⟩
  | .readCalendar p tag pl => some ⟨p, 0x30, tag, pl⟩
  | .beginCalendar p tag pl => some ⟨p, 0x31, tag, pl⟩
  | .loadDayProfile p tag pl => some ⟨p, 0x32, tag, pl⟩
  | .loadWeek p tag pl => some ⟨p, 0x33, tag, pl⟩
  | .loadSpecialDay p tag pl => some ⟨p, 0x34, tag, pl⟩
  | .commitCalendar p tag pl => some ⟨p, 0x35, tag, pl⟩
  | .abortCalendar p tag pl => some ⟨p, 0x36, tag, pl⟩
  | .readProfile p tag pl => some ⟨p, 0x40, tag, pl⟩
  | .ackProfile p tag pl => some ⟨p, 0x41, tag, pl⟩
  | .readProfileAt p tag pl => some ⟨p, 0x42, tag, pl⟩
  | .freeze p tag pl => some ⟨p, 0x50, tag, pl⟩
  | .readFrozen p tag pl => some ⟨p, 0x51, tag, pl⟩
  | .postDirective p tag pl => some ⟨p, 0x60, tag, pl⟩
  | .cancelDirective p tag pl => some ⟨p, 0x61, tag, pl⟩
  | .utilityHoldOn p tag pl => some ⟨p, 0x62, tag, pl⟩
  | .utilityHoldOff p tag pl => some ⟨p, 0x62, tag, pl⟩
  | .ackSetpoint p tag pl => some ⟨p, 0x63, tag, pl⟩
  | .recloseRequest p tag pl => some ⟨p, 0x64, tag, pl⟩
  | .readExportStatus p tag pl => some ⟨p, 0x65, tag, pl⟩
  | .readDirectives p tag pl => some ⟨p, 0x66, tag, pl⟩
  | .clearRegisters p tag pl => some ⟨p, 0x70, tag, pl⟩
  | .setProtection p tag pl => some ⟨p, 0x71, tag, pl⟩
  | .closeCommissioning p tag pl => some ⟨p, 0x72, tag, pl⟩
  | .readIdentity p tag pl => some ⟨p, 0x73, tag, pl⟩
  | .clearTamper p tag pl => some ⟨p, 0x74, tag, pl⟩
  | .restart p tag pl => some ⟨p, 0x75, tag, pl⟩
  | .writeConfigSlotMap p tag v => some ⟨p, 0x11, tag, 1 :: v⟩
  | .writeConfigNettingMode p tag v => some ⟨p, 0x11, tag, 2 :: v⟩
  | .writeConfigIntervalLength p tag v => some ⟨p, 0x11, tag, 3 :: v⟩
  | .writeConfigBillingDay p tag v => some ⟨p, 0x11, tag, 4 :: v⟩
  | .writeConfigStaticConnectionLimit p tag v => some ⟨p, 0x11, tag, 5 :: v⟩
  | .writeConfigExportTolerance p tag v => some ⟨p, 0x11, tag, 6 :: v⟩
  | .writeConfigGrace p tag v => some ⟨p, 0x11, tag, 7 :: v⟩
  | .writeConfigAcknowledgementTime p tag v => some ⟨p, 0x11, tag, 8 :: v⟩
  | .writeConfigMinimumOpenTime p tag v => some ⟨p, 0x11, tag, 9 :: v⟩
  | .writeConfigUtilityThreshold p tag v => some ⟨p, 0x11, tag, 10 :: v⟩
  | .writeConfigSiteThreshold p tag v => some ⟨p, 0x11, tag, 11 :: v⟩
  | .writeConfigUnknownItem p tag pl => some ⟨p, 0x11, tag, pl⟩
  | _ => none

/-- A payload whose length the layout of its request allows (R207 to R209). -/
def LengthAllowed (code : Byte) (pl : List Byte) : Prop :=
  match code.toNat with
  | 0x03 | 0x30 | 0x61 | 0x63 | 0x71 => pl.length = 2
  | 0x05 => pl.length ≤ 1
  | 0x11 => knownItem pl = true
  | 0x21 | 0x22 | 0x41 => pl.length = 4
  | 0x31 => pl.length = 7
  | 0x32 => ∃ i n rest, pl = i :: n :: rest ∧ rest.length = 3 * n.toNat
  | 0x33 => ∃ n rest, pl = n :: rest ∧ rest.length = 2 * n.toNat
  | 0x34 => ∃ n rest, pl = n :: rest ∧ rest.length = 5 * n.toNat
  | 0x40 | 0x51 | 0x62 => pl.length = 1
  | 0x42 => pl.length = 5
  | 0x60 => pl.length = 16
  | _ => pl = []

/-- The state after a port's own refusal: a response sent and nothing else changed. -/
def refusedAt (s : State) (p : PortId) (code tag : Byte) (res : Result) : State :=
  s.setPort p { s.port p with sent := some ⟨code, tag, res, []⟩ }

/-! ## Calendars -/

/-- The last day of a month of a year, by the leap years of the clock's range (R44). -/
def lastDayOf (year month : Nat) : Nat :=
  if month = 2 then (if year % 4 = 0 ∧ year ≠ 2100 then 29 else 28)
  else if month = 4 ∨ month = 6 ∨ month = 9 ∨ month = 11 then 30
  else 31

/-- A special day that LOAD_SPECIAL_DAY takes: 29 February is a day where the year is absent (R68). -/
def AllowedDay (x : SpecialDay) : Prop :=
  1 ≤ x.month ∧ x.month ≤ 12 ∧ (∀ y, x.year = some y → 2000 ≤ y ∧ y ≤ 2135) ∧ 1 ≤ x.day
  ∧ x.day ≤ lastDayOf (x.year.getD 2000) x.month ∧ x.profile ≤ 7

/-! ## Export control -/

/-- The order of the Directive List: by priority, the newer post first among equals (R125). -/
def ListOrdered (l : List Directive) : Prop :=
  l.Pairwise fun a b => a.priority < b.priority ∨ (a.priority = b.priority ∧ b.seq < a.seq)

/-- The oldest entry of the numerically highest priority present (R127 step 2). -/
def IsLowest (l : List Directive) (v : Directive) : Prop :=
  v ∈ l ∧ ∀ x ∈ l, x.priority < v.priority ∨ (x.priority = v.priority ∧ v.seq ≤ x.seq)

/-- The list brought to a time: entries that ended leave, and those whose start has come are ACTIVE (R130 step 3). -/
def broughtTo (l : List Directive) (p : Nat) : List Directive :=
  (l.filter fun d => d.stop.all fun e => p < e).map fun d => { d with active := d.active || decide (d.start ≤ p) }

/-- The state with the Directive List replaced, and an image wanted when that changes it (R163). -/
def withList (s : State) (l : List Directive) : State :=
  if l = s.ecu.list then s else State.wantImage { s with ecu := { s.ecu with list := l } }

/-! ## The array and the supply -/

/-- A request that DSC may grant: in HOLDUP the hold-up commit alone; else any, but no routine or commanded image while the
next slot's sector awaits its erase, and in START no append and no erase-ahead but BFU's in the write step (R122, R161, R164,
R188). -/
def Grantable (s : State) (r : StoreRequest) : Prop :=
  (s.ssv.supply = .holdup → r.client = .holdup)
  ∧ (s.ssv.supply ≠ .holdup → s.dsc.awaitsErase = true →
      r.client ≠ .routineImage ∧ ∀ o, r.client ≠ .commandedImage o)
  ∧ (s.ssv.supply = .start →
      r.client ≠ .append ∧ r.client ≠ .imageErase
      ∧ ∀ k, r.client ≠ .profileErase k ∧ (s.ssv.writeStep = false → r.client ≠ .frozenErase k))

/-- The array is free for a grant (R156, R160). -/
def ArrayFree (s : State) : Prop :=
  s.dsc.inFlight = none ∧ s.dsc.grant = none ∧ (s.dsc.suspended = none ∨ s.ssv.supply = .holdup)

/-- The first request of the queue that DSC may grant (R155, R156). -/
def FirstGrantable (s : State) (r : StoreRequest) : Prop :=
  ∃ pre post, s.dsc.queue = pre ++ r :: post ∧ Grantable s r ∧ ∀ q ∈ pre, ¬ Grantable s q

/-- Queue ids are distinct, as DSC numbers its requests. -/
def DistinctIds (l : List StoreRequest) : Prop := l.Pairwise fun a b => a.id ≠ b.id

/-- The report of an erase's start to the two clients that are told of it (R156). -/
def toldOf (op : ArrayOp) (c : Client) : List StoreMail :=
  match op, c with
  | .erase _, .profileErase _ | .erase _, .frozenErase _ => [⟨c, .granted, [], none⟩]
  | _, _ => []

/-- DSC with the first operation of a request put on the array. -/
def started (s : State) (d : Dsc) (id : Nat) (c : Client) (op : ArrayOp) : State :=
  { s with
    dsc := { d with inFlight := some ⟨id, op⟩ }
    mail := { s.mail with store := s.mail.store ++ toldOf op c } }

/-- A port that holds nothing but its cover view and what it sent last (R191). -/
def portEmptied (x : Port) (cover : Cover) : Port :=
  { Port.blank with coverView := cover, serial := x.serial, sent := x.sent }

/-- What BACKUP keeps of the state it is entered from: the clock without its due slots, CVM, the hold-up record and the
retention mark, and the array, an operation under way on it stopped where it stands; everything held on mains is lost (R183). -/
def LosesMains (s t : State) : Prop :=
  t.mfp = .blank ∧ t.nau = .blank ∧ t.tcu = .blank ∧ t.ipu = .blank ∧ t.bfu = .blank ∧ t.ecu = .blank
  ∧ t.cck = { s.cck with due := ⟨none, none, none, none⟩ } ∧ t.cvm = s.cvm
  ∧ t.dsc = { Dsc.blank with nextId := s.dsc.nextId }
  ∧ t.ssv = { Ssv.blank with mainsGood := s.ssv.mainsGood, record := s.ssv.record, retention := s.ssv.retention }
  ∧ t.ulk = portEmptied s.ulk .closed ∧ t.slk = portEmptied s.slk .closed ∧ t.opt = portEmptied s.opt .closed
  ∧ t.mail = .empty ∧ t.exportPermit = false ∧ t.coverSwitch = s.coverSwitch ∧ t.pending = s.pending
  ∧ t.store = s.cutOperations.store
  ∧ (s.dsc.inFlight = none → s.dsc.suspended = none → t.store = s.store)

/-- The open interval flagged SUPPLY_LOSS (R103). -/
def supplyFlagged (u : Ipu) : Ipu :=
  { u with interval := u.interval.map fun iv => { iv with flags := { iv.flags with supplyLoss := true } } }

/-- The next record's hand-over, or first the erase-ahead that is still to be requested (R105). -/
def resumeQueue (s : State) : State :=
  if s.ipu.erase = .requested then
    asked s (.profileErase (15 + s.ipu.writePos / 128)) [.erase (15 + s.ipu.writePos / 128)] true
  else handOver s

/-! ## Restarts -/

/-- What a scan finds: a valid record whose key no other exceeds, or nothing where no record is valid (R22, R122, R165,
R166). -/
def Newest {α : Type} (key : α → Nat) (valid : List (Nat × α)) (found : Option (Nat × α)) : Prop :=
  (∀ e, found = some e → e ∈ valid ∧ ∀ y ∈ valid, key y.2 ≤ key e.2) ∧ (found = none ↔ valid = [])

/-- DSC after its scans: the next image slot and sequence, the configuration record held with its level and lock and the last
page used, the lifecycle, the alarm, the identity page; nothing on the array (R152, R159, R165, R166, R169, R175). -/
def DscScanned (st : Store) (kind : RestartKind) (d : Dsc) : Prop :=
  d.fault = false ∧ d.inFlight = none ∧ d.suspended = none ∧ d.grant = none ∧ d.gather = none
  ∧ d.imageWanted = false
  ∧ (st.newestImage = none → d.nextSlot = 0 ∧ d.nextSeq = 1 ∧ d.seqSpent = false)
  ∧ (∀ n x, st.newestImage = some (n, x) →
      (∀ k, n < k → k / 4 = n / 4 → st.images.lookup k = none →
        (∀ j, n < j → j < k → st.images.lookup j ≠ none) → d.nextSlot = k)
      ∧ ((∀ k, n < k → k / 4 = n / 4 → st.images.lookup k ≠ none) → d.nextSlot = (n / 4 + 1) % 8 * 4)
      ∧ d.nextSeq = (if x.seq = 4294967295 then 4294967295 else x.seq + 1)
      ∧ d.seqSpent = decide (x.seq = 4294967295))
  ∧ (d.awaitsErase = true ↔
      d.nextSlot % 4 = 0 ∧ ∃ k, d.nextSlot ≤ k ∧ k < d.nextSlot + 4 ∧ st.images.lookup k ≠ none)
  ∧ (st.newestConfig = none → d.lastPage = none
      ∧ d.held = ⟨0, .allUnused, .summed, 15, 0, ⟨5000, 100, 30, 60, 300⟩, 96, 96, 0, false⟩)
  ∧ (∀ n c, st.newestConfig = some (n, c) → d.held = c
      ∧ ∀ k, k / 16 = n / 16 → st.config.lookup k ≠ none →
        (∀ j, k < j → j / 16 = n / 16 → st.config.lookup j = none) → d.lastPage = some k)
  ∧ d.level = d.held.level ∧ d.lock = d.held.lock
  ∧ (d.lifecycle = .inService ↔ ∃ k, (k, Written.whole ()) ∈ st.marks)
  ∧ (d.alarm = true ↔ kind = .imageLost) ∧ d.identity = st.identity

/-- CCK after a restart: kept with its slots absent, or begun again UNSET at time 0 under the generation after the image's or
the newest frozen set's (R54); the second phase is then 0 (log 2). `unkept` says that the cell is LOW after BACKUP. -/
def ClockRestarted (before : Cck) (kind : RestartKind) (unkept : Prop) (image : Option CommitImage)
    (frozen : Option FrozenSet) (c : Cck) : Prop :=
  let absent : DueSlots := ⟨none, none, none, none⟩
  let kept := c = { before with due := absent }
  let begun (gen : Nat) := c = ⟨0, 0, false, gen, absent⟩
  (kind = .cold → begun 0) ∧ (kind = .commanded ∨ kind = .resetInput → kept)
  ∧ (kind = .imageLost → ¬ unkept → kept)
  ∧ (kind = .imageLost → unkept → ∀ f, frozen = some f → begun ((f.gen + 1) % 256))
  ∧ (kind = .imageLost → unkept → frozen = none → begun 0)
  ∧ (kind = .supply → ¬ unkept → kept)
  ∧ ∀ x, kind = .supply → unkept → image = some x → begun ((x.cck.gen + 1) % 256)

/-- A complete calendar record in a sector, with whether it is marked (R76). -/
def CalendarIn (st : Store) (sector : Nat) (r : CalendarRecord) (marked : Bool) : Prop :=
  ∃ c : CalendarSector, (sector = 3 ∧ c = st.calendar3 ∨ sector = 4 ∧ c = st.calendar4)
    ∧ c.record = some (.whole r) ∧ (marked = true ↔ c.mark = some (.whole ()))

/-- TCU after a restart: the active calendar is the one the image names, else the newest marked one; the waiting one is an
unmarked one above the discarded-through sequence and the active one's, in the other sector (R77), the one with the higher
sequence where two meet this (log 31). No session, no boundary, and band 1 until the resumption (R78, log 16). -/
def TariffRestored (st : Store) (image : Option CommitImage) (u : Tcu) : Prop :=
  let named (q : Nat) : Prop := ∃ x, image = some x ∧ x.tcu.activeSeq = some q
  let unnamed := ∀ k r m, CalendarIn st k r m → ¬ named r.seq
  let waits (k : Nat) (r : CalendarRecord) : Prop :=
    CalendarIn st k r false ∧ u.discarded < r.seq ∧ ∀ a, u.active = some a → k ≠ u.activeSector ∧ a.seq < r.seq
  (∀ k r m, CalendarIn st k r m → named r.seq → (∀ j y n, CalendarIn st j y n → named y.seq → j = k) →
      u.active = some r ∧ u.activeSector = k ∧ u.markOwed = !m)
  ∧ (∀ k r, unnamed → CalendarIn st k r true → (∀ j y, CalendarIn st j y true → j = k ∨ y.seq < r.seq) →
      u.active = some r ∧ u.activeSector = k ∧ u.markOwed = false)
  ∧ (unnamed → (∀ k r, ¬ CalendarIn st k r true) → u.active = none ∧ u.activeSector = 3 ∧ u.markOwed = false)
  ∧ (∀ k r, waits k r → (∀ j y, waits j y → j = k ∨ y.seq < r.seq) → u.slot = .waiting r)
  ∧ ((∀ k r, ¬ waits k r) → u.slot = .empty)
  ∧ (∀ x, image = some x → u.discarded = x.tcu.discarded ∧ x.tcu.nextSeq ≤ u.nextSeq)
  ∧ (image = none → u.discarded = 0)
  ∧ (∀ k r m, CalendarIn st k r m → r.seq < u.nextSeq)
  ∧ ((∃ x, image = some x ∧ u.nextSeq = x.tcu.nextSeq) ∨ (∃ k r m, CalendarIn st k r m ∧ u.nextSeq = r.seq + 1)
      ∨ (image = none ∧ u.nextSeq = 1))
  ∧ u.boundary = none ∧ u.sessionMs = none ∧ u.action = .idle ∧ u.band = 1

/-- IPU's ring after a restart: the write position follows the last slot programmed in the head's sector; the ring is the
valid records in round order from the sector after the write position's, through the head; the numbers go on from the head
and the image, and a record of the image's queue already stored leaves it (R93, R105); that the image says whether the last
number has been given is the model's choice (log 30). -/
def RingRestored (st : Store) (image : Option CommitImage) (u : Ipu) : Prop :=
  let all := st.profile.valid
  let numbered (head : Nat) : Prop :=
    let n := match image with | some x => max x.ipu.nextNumber (head + 1) | none => head + 1
    let spent := match image with | some x => x.ipu.numbersSpent | none => false
    u.nextNumber = min n 4294967295 ∧ u.numbersSpent = (spent || decide (4294967295 < n))
      ∧ u.queue = match image with | some x => x.ipu.queue.filter fun r => decide (head < r.number) | none => []
  (all = [] → u.writePos = 0 ∧ u.erase = .requested ∧ u.ring = [] ∧ numbered 0)
  ∧ (∀ n r, (n, r) ∈ all → (∀ e ∈ all, e.1 = n ∨ e.2.number < r.number) →
      numbered r.number
      ∧ (∀ k, k / 128 = n / 128 → st.profile.lookup k ≠ none →
          (∀ j, k < j → j / 128 = n / 128 → st.profile.lookup j = none) →
          u.writePos = (k + 1) % 4224 ∧ u.erase = if (k + 1) % 128 = 0 then .requested else .idle)
      ∧ (let first := (u.writePos / 128 + 1) * 128
        let round := (all.filter fun e => decide (first ≤ e.1)) ++ all.filter fun e => decide (e.1 < first)
        ∃ before later, round = before ++ (n, r) :: later
          ∧ u.ring = (before ++ [(n, r)]).map fun e => ⟨e.2.number, e.1⟩))
  ∧ u.handed = false ∧ u.underWrite = none

/-- A reader after a restart with an image: its cursor brought into the ring, what it lost counted (R105 step 6). -/
def ReaderRestored (cursor skip threshold oldest next : Nat) (r : Reader) : Prop :=
  (cursor < oldest → r = ⟨oldest, min 65535 (skip + (oldest - cursor)), 0, threshold⟩)
  ∧ (oldest ≤ cursor → r = ⟨min cursor next, skip, 0, threshold⟩)

/-- IPU after a restart: the ring, the readers, the lengths and the saved interval, and what the next record owes: a rollback
after IMAGE_LOST (R24) and, after SUPPLY, by the hold-up record or, with the cell LOW, by the image's cause (R189), and
RESET_INPUT (R107). -/
def ProfileRestored (st : Store) (kind : RestartKind) (good : Bool) (record : HoldupRecord) (held : ConfigRecord)
    (image : Option CommitImage) (u : Ipu) : Prop :=
  let limit := match u.queue with | [] => u.nextNumber | r :: _ => r.number
  let oldest := match u.ring with | [] => limit | e :: _ => e.number
  RingRestored st image u
  ∧ (image = none →
      u.length = held.length ∧ u.pendingLength = none ∧ u.interval = none ∧ u.calendarHold = false
      ∧ u.supplyMark = none ∧ u.savedAt = none
      ∧ u.utility = ⟨oldest, 0, 0, held.utilityThreshold⟩ ∧ u.site = ⟨oldest, 0, 0, held.siteThreshold⟩)
  ∧ (∀ x, image = some x →
      let y := x.ipu
      u.length = y.length ∧ u.pendingLength = y.pendingLength ∧ u.interval = y.interval
      ∧ u.calendarHold = y.calendarHold ∧ u.supplyMark = y.supplyMark ∧ u.savedAt = some x.cck.time
      ∧ ReaderRestored y.utilityCursor y.utilitySkip y.utilityThreshold oldest u.nextNumber u.utility
      ∧ ReaderRestored y.siteCursor y.siteSkip y.siteThreshold oldest u.nextNumber u.site)
  ∧ (u.owedReset = true ↔ kind = .resetInput)
  ∧ (u.owedRollback = true ↔
      kind = .imageLost
      ∨ ∃ x, kind = .supply ∧ image = some x
        ∧ ((good = true ∧ record ≠ .none ∧ ∀ q, record = .complete q → x.seq < q)
          ∨ (good = false ∧ x.cause ≠ .holdup)))

/-- BFU after a restart: the history is the valid sets, newest first; the write position follows the last slot programmed in
the newest set's sector; a captured set already stored is dropped; the counter and the last date are the later of the image's
and the store's (R122, R123). -/
def BillingRestored (st : Store) (held : ConfigRecord) (image : Option CommitImage) (b : Bfu) : Prop :=
  let all := st.frozen.valid
  let stored (n : Nat) : Prop := ∃ e ∈ all, e.2.number = n
  (∀ e, e ∈ b.history ↔ ∃ f, (e.pos, f) ∈ all ∧ e.number = f.number ∧ e.failed = false)
  ∧ b.history.length = all.length ∧ b.history.Pairwise (fun x y => y.number ≤ x.number)
  ∧ (all = [] → b.writePos = 0 ∧ (b.erase = .idle ∨ b.erase = .requested)
      ∧ (b.erase = .idle ↔ ∀ k, k < 16 → st.frozen.lookup k = none))
  ∧ (∀ n f, (n, f) ∈ all → (∀ e ∈ all, e.1 = n ∨ e.2.number < f.number) →
      ∀ k, k / 16 = n / 16 → st.frozen.lookup k ≠ none →
        (∀ j, k < j → j / 16 = n / 16 → st.frozen.lookup j = none) →
        b.writePos = (k + 1) % 32 ∧ b.erase = if (k + 1) % 16 = 0 then .requested else .idle)
  ∧ (let counted (c : Nat) : Prop := (∀ e ∈ all, e.2.number ≤ c) ∧ (c = 0 ∨ stored c)
    let dated (d : Option Date) : Prop :=
      (∀ n f, (n, f) ∈ all → f.cause = .scheduled →
        (∀ e ∈ all, e.2.cause = .scheduled → e.1 = n ∨ e.2.number < f.number) → d = f.billingDate)
      ∧ ((∀ e ∈ all, e.2.cause ≠ .scheduled) → d = none)
    ∃ c d, counted c ∧ dated d
      ∧ (image = none →
          b.billingDay = held.billingDay ∧ b.captured = none ∧ b.deferred = false ∧ b.counter = c ∧ b.lastDate = d)
      ∧ ∀ x, image = some x →
          b.billingDay = x.bfu.billingDay ∧ b.deferred = x.bfu.deferred ∧ b.counter = max x.bfu.counter c
          ∧ (∀ f, x.bfu.captured = some f →
              (stored f.number → b.captured = none) ∧ (¬ stored f.number → b.captured = some f))
          ∧ (x.bfu.captured = none → b.captured = none)
          ∧ (x.bfu.lastDate = none → b.lastDate = d) ∧ (d = none → b.lastDate = x.bfu.lastDate)
          ∧ ∀ v w, x.bfu.lastDate = some v → d = some w → b.lastDate = some (if v.before w then w else v))

/-- The write step a restart begins for a captured set: its program asked of DSC, or first the erase its slot needs (R122
step 5, R188 step 2). `id` numbers the request. -/
def WriteStepBegun (id : Nat) (t : State) : Prop :=
  let b := t.bfu
  (b.captured = none →
      t.ssv.writeStep = false ∧ b.handed = false ∧ t.dsc.queue = [] ∧ t.dsc.nextId = id)
  ∧ (∀ f, b.captured = some f →
      t.ssv.writeStep = true ∧ t.dsc.nextId = id + 1
      ∧ (b.erase = .requested → b.handed = false ∧ t.dsc.queue =
          [⟨id, 3, .frozenErase (5 + b.writePos / 16), [.erase (5 + b.writePos / 16)], true, false, [], none⟩])
      ∧ (b.erase = .idle → b.handed = true ∧ t.dsc.queue =
          [⟨id, 3, .frozenWrite, [.program (.frozenBody b.writePos), .program (.frozenMarker b.writePos f)], true, false,
            [], none⟩])
      ∧ b.erase ≠ .granted)

/-- ECU after a restart, its list and limits not yet computed again (R150, R151, log 16). -/
def ExportRestored (held : ConfigRecord) (image : Option CommitImage) (e : Ecu) : Prop :=
  (image = none →
      e.list = [] ∧ e.nextSeq = 1 ∧ e.config = held.ecu ∧ e.notice = 0 ∧ e.noticeLimit = held.ecu.staticLimit
      ∧ e.handshake = .settled ∧ e.settled = held.ecu.staticLimit ∧ e.interlock = .openReady ∧ e.cause = .none
      ∧ e.hold = false ∧ e.effective = held.ecu.staticLimit)
  ∧ (∀ x, image = some x →
      e.list = x.ecu.list ∧ e.nextSeq = x.ecu.nextSeq ∧ e.config = x.ecu.config ∧ e.notice = x.ecu.notice
      ∧ e.noticeLimit = x.ecu.noticeLimit ∧ e.handshake = x.ecu.handshake ∧ e.settled = x.ecu.settled
      ∧ e.interlock = x.ecu.interlock ∧ e.cause = x.ecu.cause ∧ e.hold = x.ecu.hold
      ∧ e.effective = x.ecu.config.staticLimit)
  ∧ e.governing = none ∧ e.deadline = none ∧ e.openEnd = none ∧ e.excursion = 0 ∧ e.view = .idle

/-! ## Epochs -/

/-- The net value of the mapped phases: a phase that no slot maps contributes nothing (R5). -/
def netOf (inc : Increment) : Int := inc.a.getD 0 + inc.b.getD 0 + inc.c.getD 0

/-- The positive part of a value. -/
def above (z : Int) : Nat := if 0 < z then z.toNat else 0

/-- The magnitude of a negative value. -/
def below (z : Int) : Nat := if z < 0 then z.natAbs else 0

/-- The import quantity of an epoch (R5, R6). -/
def importOf (mode : NettingMode) (inc : Increment) : Nat :=
  match mode with
  | .summed => above (netOf inc)
  | .perPhase => above (inc.a.getD 0) + above (inc.b.getD 0) + above (inc.c.getD 0)

/-- The other-way quantity of an epoch (R5, R6). -/
def exportOf (mode : NettingMode) (inc : Increment) : Nat :=
  match mode with
  | .summed => below (netOf inc)
  | .perPhase => below (inc.a.getD 0) + below (inc.b.getD 0) + below (inc.c.getD 0)

/-- A register after whole Wh are added to it, wrapping at 10,000,000,000 (R11). -/
def grown (register whole : Nat) : Nat := (register + whole) % 10000000000

/-- The bytes of a measurement frame over 32 slot bytes (R26, R211). -/
def measurementBytes (slots : List Byte) : List Byte := 0xA5#8 :: 32#8 :: (slots ++ crcBytes (32#8 :: slots))

/-! ## Change notices -/

/-- The mail with one change notice behind what each of the four owners has not yet taken (R52). -/
def Mail.notifyAll (m : Mail) (n : Notice) : Mail :=
  { m with
    clockIpu := m.clockIpu ++ [.notice n]
    clockTcu := m.clockTcu ++ [.notice n]
    clockBfu := m.clockBfu ++ [.notice n]
    clockEcu := m.clockEcu ++ [.notice n] }

/-- The mail with one due event behind what an owner has not yet taken (R51). -/
def Mail.addClock (m : Mail) (o : Owner) (x : ClockMail) : Mail := m.putClock o (m.clock o ++ [x])

/-! ## Invariants that every step keeps -/

/-- The records of commit images that the part holds or is about to program: valid in the array, or in a marker program of a
request, of the operation in flight, or of a suspended one. -/
def imagesHeld (s : State) : List CommitImage :=
  s.store.images.valid.map (fun e => e.2)
    ++ (s.dsc.queue.flatMap (fun r => r.ops) ++ s.dsc.inFlight.toList.map (fun x => x.op)
        ++ s.dsc.suspended.toList.map fun x => x.op).filterMap
      fun op =>
        match op with
        | .program (.imageMarker _ x) => some x
        | _ => none

/-- A property of NAU that holds now and in every image a restart may restore (R21). -/
def AtNau (P : Nau → Prop) (s : State) : Prop :=
  P s.nau ∧ (∀ x ∈ imagesHeld s, P x.nau) ∧ ∀ g n, s.dsc.gather = some g → g.nau = some n → P n

/-- The table is in balance: each TOTAL register is the sum of its six band registers modulo 10,000,000,000 Wh, and each
residue is below a whole Wh (R1, R9, R11). -/
def Balanced (n : Nau) : Prop :=
  n.table.regs.totalImp = n.table.regs.imp.sum % 10000000000
  ∧ n.table.regs.totalExp = n.table.regs.exp.sum % 10000000000
  ∧ n.table.res.imp < 1000 ∧ n.table.res.exp < 1000 ∧ n.table.res.gen < 1000

/-- The table is in balance, now and in every image a restart may restore. -/
def TablesBalanced (s : State) : Prop := AtNau Balanced s

/-- The directives of a list: at most 8, no two with one id or one post sequence, in list order, each post sequence already
given (R125). -/
def ListSound (l : List Directive) (nextSeq : Nat) : Prop :=
  l.length ≤ 8 ∧ (l.Pairwise fun a b => a.id ≠ b.id) ∧ (l.Pairwise fun a b => a.seq ≠ b.seq) ∧ ListOrdered l
  ∧ ∀ d ∈ l, d.seq < nextSeq

/-- What an ECU part of an image shows: a sound list, and HELD exactly while the utility hold is on (R125, R142). -/
def EcuPartSound (e : EcuPart) : Prop := ListSound e.list e.nextSeq ∧ (e.hold = true ↔ e.interlock = .held)

/-- Export control is sound: EXPORT_PERMIT is asserted exactly while the interlock is CLOSED in MAINS, the interlock is HELD
exactly while the utility hold is on, the effective limit never exceeds the static limit, and the Directive List is sound,
now and in every image a restart may restore (R125, R132, R142, R148). -/
def ExportSound (s : State) : Prop :=
  (s.exportPermit = true ↔ s.ecu.interlock = .closed ∧ s.ssv.supply = .mains)
  ∧ (s.ecu.hold = true ↔ s.ecu.interlock = .held)
  ∧ s.ecu.effective ≤ s.ecu.config.staticLimit
  ∧ ListSound s.ecu.list s.ecu.nextSeq
  ∧ (∀ x ∈ imagesHeld s, EcuPartSound x.ecu)
  ∧ ∀ g e, s.dsc.gather = some g → g.ecu = some e → EcuPartSound e

/-- The ports are sound: outside MAINS no request is in progress and no write-enable latch is set; the latch is never set on
SLK, and on OPT only with the cover OPEN; every member of a set belongs to its port; each line follows its set and mask, and is
deasserted in START and BACKUP (R180, R191, R195, R196, R202). -/
def PortsSound (s : State) : Prop :=
  (∀ p, s.ssv.supply ≠ .mains → (s.port p).inProgress = none ∧ (s.port p).writeEnable = false)
  ∧ s.slk.writeEnable = false
  ∧ (s.opt.writeEnable = true → s.opt.coverView = .opened)
  ∧ (∀ p m, (s.port p).attention.has m = true → belongsTo m p = true)
  ∧ (∀ p r, r ∈ s.mail.reports p → belongsTo r.member p = true)
  ∧ ∀ p, (s.port p).line =
      (decide (s.ssv.supply = .mains ∨ s.ssv.supply = .holdup) && (s.port p).attention.unmasked (s.port p).mask)

/-- The clock is in range: a 32-bit time, a generation below 256, a second phase below a whole second (R42). -/
def ClockSound (s : State) : Prop := s.cck.time ≤ 4294967295 ∧ s.cck.gen < 256 ∧ s.cck.phaseMs < 1000

end Sys2Proof.Machine
end

