-- ==== Sys2Proof/Certificates/Slice0/Obligations.lean ====
section
/-! DEFINITION. The statements for the provers. -/

open Sys2Proof Sys2Proof.Machine

/-! ## The queue of commands -/

/-- A step with a command at the front of the queue is that command's effect over the queue's rest. -/
def Obligations.StepRunsFrontCommand : Prop :=
  ∀ (c : Instr) (rest : List Instr) (s : State), step (s.setPending (c :: rest)) = exec c (s.setPending rest)

/-- A well-formed command answers a next state and leaves the queue; no command faults; a refusal is of an ill-formed command,
and the rows with an operand that makes them another row's refuse it by name (log 24). Bytes on a link are received whatever
they hold. -/
def Obligations.WellFormedCommandCompletes : Prop :=
  (∀ (c : Instr) (s : State), c.wellFormed = true → ∃ t, exec c s = .next t ∧ t.pending = s.pending)
  ∧ (∀ (c : Instr) (s : State) (f : Fault), exec c s ≠ .fault f)
  ∧ (∀ (c : Instr) (s : State) (r : Refusal), exec c s = .refused r → r = .illFormed ∧ c.wellFormed = false)
  ∧ (∀ (p : PortId) (tag code : Byte) (payload bytes : List Byte) (s : State),
    exec (.utilityHoldOn p tag [0]) s = .refused .illFormed
    ∧ exec (.utilityHoldOff p tag [1]) s = .refused .illFormed
    ∧ (knownCode code = true → exec (.unknownRequestCode p code tag payload) s = .refused .illFormed)
    ∧ (knownItem payload = true → exec (.writeConfigUnknownItem p tag payload) s = .refused .illFormed)
    ∧ exec (.linkFrameDiscarded p bytes) s = .next (s.receiveBytes p bytes))

/-- On an empty queue, with no block's answer outstanding, one millisecond passes (log 3): in MAINS, MFP's timer and the second
phase move on by 1 where no moment they wait for is reached, and nothing else changes. With an ask outstanding one of the
blocks asked answers instead, which one being free (log 8). Both are the model's choice. -/
def Obligations.EmptyQueueStepPassesMillisecond : Prop :=
  (∀ s : State, s.pending = [] → (∀ p, (s.port p).asked = []) → s.ssv.supply = .mains → s.cck.phaseMs + 1 < 1000 →
      s.tcu.sessionMs = none → (∀ d, s.mfp.deadline = some d → s.mfp.timer + 1 < d) →
      step s = .next { s with mfp := { s.mfp with timer := s.mfp.timer + 1 },
                              cck := { s.cck with phaseMs := s.cck.phaseMs + 1 } })
  ∧ (∀ s : State, s.pending = [] → (∃ p, (s.port p).asked ≠ []) →
      ∃ p b, b ∈ (s.port p).asked ∧ step s = .next (State.answerAsk { s with freeIndex := s.freeIndex + 1 } p b))

/-! ## NAU -/

/-- NAU takes an Epoch Increment: the split under its netting mode, the residue carry, the wrap, the calendar id, and the
split increment to IPU; a fault epoch carries nothing. Under both netting modes the difference between the two quantities is
the net value. -/
def Obligations.EpochIncrementCarried : Prop :=
  (∀ (s : State) (inc : Increment) (rest : List Increment),
      s.ssv.supply = .mains → s.mail.nauEpochs = inc :: rest →
      exec .nauEpochIncrement s = .next
        (let i := if inc.fault then 0 else importOf s.nau.mode inc
         let e := if inc.fault then 0 else exportOf s.nau.mode inc
         let g := if inc.fault then none else inc.gen
         let t := s.nau.table
         let band := s.tcu.band
         let wi := (t.res.imp + i) / 1000
         let we := (t.res.exp + e) / 1000
         let wg := (t.res.gen + g.getD 0) / 1000
         let id := s.tcu.active.map fun r => r.calendar.id
         { s with
           nau := { s.nau with table :=
             if inc.fault then { t with calendarId := id }
             else
              { t with
                regs :=
                  { imp := t.regs.imp.set band (grown (t.regs.imp.get band) wi)
                    exp := t.regs.exp.set band (grown (t.regs.exp.get band) we)
                    totalImp := grown t.regs.totalImp wi
                    totalExp := grown t.regs.totalExp we
                    gen := grown t.regs.gen wg }
                res := ⟨(t.res.imp + i) % 1000, (t.res.exp + e) % 1000, (t.res.gen + g.getD 0) % 1000⟩
                calendarId := id } }
           mail := { s.mail with
             nauEpochs := rest
             ipuEnergy := s.mail.ipuEnergy ++ [.split ⟨i, e, g, inc.fault, inc.missed⟩] } }))
  ∧ (∀ inc : Increment,
      (importOf .summed inc : Int) - exportOf .summed inc = netOf inc
      ∧ (importOf .perPhase inc : Int) - exportOf .perPhase inc = netOf inc)

/-- NAU takes an interval close, by which a pending netting mode becomes current, and a demand report, which replaces an entry
when it is strictly greater. MFP takes a close: switch due is set when a pending map is held. That MFP takes one in
START too is the model's choice (log 32). -/
def Obligations.IntervalReportsTaken : Prop :=
  ∀ s : State,
    (∀ rest, s.mail.nauCloses = .close :: rest →
      exec .nauIntervalClose s = .next
        { s with
          nau := { s.nau with mode := s.nau.pendingMode.getD s.nau.mode, pendingMode := none }
          mail := { s.mail with nauCloses := rest } })
    ∧ (∀ n, s.mail.mfpCloses = n + 1 →
      exec .mfpIntervalClose s = .next
        { s with
          mfp := { s.mfp with switchDue := s.mfp.switchDue || s.mfp.pendingMap.isSome }
          mail := { s.mail with mfpCloses := n } })
    ∧ (∀ r rest, s.mail.nauCloses = .demand r :: rest →
      let d := s.nau.table.demands
      let imp := if (d.imp.get r.band).watts < r.imp then d.imp.set r.band ⟨r.imp, some r.endTime⟩ else d.imp
      let exp := if d.exp.watts < r.exp then ⟨r.exp, some r.endTime⟩ else d.exp
      exec .nauDemandReport s = .next
        { s with
          nau := { s.nau with table := { s.nau.table with demands := ⟨imp, exp⟩ } }
          mail := { s.mail with nauCloses := rest } })

/-- CLEAR_REGISTERS in COMMISSIONING zeroes the table but for the calendar id; in IN_SERVICE it is refused. -/
def Obligations.ClearRegistersByLifecycle : Prop :=
  ∀ (s : State) (p : PortId) (tag : Byte), Admitted s p 0x70 [] →
    (s.dsc.lifecycle = .commissioning →
      exec (.clearRegisters p tag []) s = .next
        (answered { s with nau := { s.nau with table :=
          { regs := .zero, res := ⟨0, 0, 0⟩, demands := .empty, calendarId := s.nau.table.calendarId } } }
          p 0x70 tag .ok []))
    ∧ (s.dsc.lifecycle = .inService →
      exec (.clearRegisters p tag []) s = .next (answered s p 0x70 tag .wrongLifecycle []))

/-! ## MFP -/

/-- MFP takes a good frame in MAINS: accepted with its missed count, or discarded with the rebase flag set. Bytes that arrive
outside MAINS have no effect. In MAINS MFP collects a frame from its marker on, over as many arrivals as it takes: bytes
between frames are ignored, a length other than 32 ends the collection at its byte, and a whole frame whose check is bad is
dropped. That MFP holds the bytes of a frame from one arrival to the next is the model's choice (log 24). -/
def Obligations.MeasurementFrameTaken : Prop :=
  (∀ (s : State) (slots : List Byte), s.ssv.supply = .mains → s.mfp.collecting = [] → slots.length = 32 →
      let m := s.mfp
      let seq := (slots.headD 0).toNat % 16
      let offset := (seq + 16 - m.expected.getD seq) % 16
      let discards := m.port = .locked ∧ m.rebase = false ∧ 4 ≤ offset
      (discards →
        exec (.measurementFrame (measurementBytes slots)) s = .next { s with mfp := { m with rebase := true } })
      ∧ (¬ discards →
        let missed :=
          match m.port with
          | .idle => 0
          | .locked => if m.rebase then 0 else offset - m.reported
          | .lost => (match m.lastAccept with | none => 0 | some t => (m.timer - t) / 1000 - 1) - m.reported
        let map := if m.switchDue then m.pendingMap.getD m.map else m.map
        let d := decodeFrame map slots
        let inc := d.increment missed
        exec (.measurementFrame (measurementBytes slots)) s = .next
          { s with
            mfp :=
              { m with
                port := .locked
                map := map
                pendingMap := if m.switchDue then none else m.pendingMap
                switchDue := false
                expected := some ((seq + 1) % 16)
                rebase := false
                deadline := some (m.timer + 1500)
                misses := 0
                reported := 0
                lastAccept := some m.timer
                live := some d.live }
            mail :=
              { s.mail with
                nauEpochs := s.mail.nauEpochs ++ [inc]
                ecuMfp := s.mail.ecuMfp ++ (if m.port = .locked then [] else [.port .locked]) ++ [.epoch inc]
                ulk := s.mail.ulk ++ (if m.port = .lost then [⟨.measurementLost, false⟩] else [])
                slk := s.mail.slk ++ (if m.port = .lost then [⟨.measurementLost, false⟩] else []) } }))
  ∧ (∀ (s : State) (bytes : List Byte), s.ssv.supply ≠ .mains → exec (.measurementFrame bytes) s = .next s)
  ∧ (∀ (s : State) (bytes more : List Byte), s.ssv.supply = .mains →
      (∀ t, exec (.measurementFrame bytes) s = .next t →
        exec (.measurementFrame (bytes ++ more)) s = exec (.measurementFrame more) t)
      ∧ (s.mfp.collecting = [] →
        ((∀ b ∈ bytes, b ≠ 0xA5#8) → exec (.measurementFrame bytes) s = .next s)
        ∧ (∀ l : Byte, l ≠ 32#8 → exec (.measurementFrame [0xA5#8, l]) s = .next s)
        ∧ (exec (.measurementFrame [0xA5#8]) s = .next { s with mfp := { s.mfp with collecting := [0xA5#8] } })
        ∧ (bytes.length < 34 →
          exec (.measurementFrame (0xA5#8 :: 32#8 :: bytes)) s = .next
            { s with mfp := { s.mfp with collecting := 0xA5#8 :: 32#8 :: bytes } })
        ∧ (bytes.length = 34 → (∀ slots : List Byte, 0xA5#8 :: 32#8 :: bytes ≠ measurementBytes slots) →
          exec (.measurementFrame (0xA5#8 :: 32#8 :: bytes)) s = .next s)))

/-- What an accepted frame decodes to: a mapped phase whose voltage is absent gives 0 mWh, an unmapped one nothing; a fault
frame carries 0 mWh for each mapped phase and no generation. The live values are those decoded with the frame's flags; in a
fault frame the phases and the generation are absent, and the voltage flags and the fault marker are kept. -/
def Obligations.FrameDecodedUnderMap : Prop :=
  ∀ (m : SlotMap) (slots : List Byte) (missed : Nat),
    let d := decodeFrame m slots
    (d.a = (m.slotOf .phaseA).map fun n => if headerBit slots 0 then signed32 (slotWord slots n) else 0)
    ∧ (d.b = (m.slotOf .phaseB).map fun n => if headerBit slots 1 then signed32 (slotWord slots n) else 0)
    ∧ (d.c = (m.slotOf .phaseC).map fun n => if headerBit slots 2 then signed32 (slotWord slots n) else 0)
    ∧ (d.gen = (m.slotOf .gen).map fun n => slotWord slots n)
    ∧ (d.fault = true ↔
        headerBit slots 3 = true ∨ (∃ z, (d.a = some z ∨ d.b = some z ∨ d.c = some z) ∧ (z < -50000 ∨ 50000 < z))
          ∨ (∃ n, d.gen = some n ∧ 50000 < n))
    ∧ (d.fault = false → d.increment missed = ⟨d.a, d.b, d.c, d.gen, missed, false⟩)
    ∧ (d.fault = true →
        d.increment missed = ⟨d.a.map fun _ => 0, d.b.map fun _ => 0, d.c.map fun _ => 0, none, missed, true⟩)
    ∧ (let flags (n : Nat) : Bool := headerBit slots n
      (d.fault = false → d.live = ⟨d.a, d.b, d.c, d.gen, flags 0, flags 1, flags 2, false⟩)
      ∧ (d.fault = true → d.live = ⟨none, none, none, none, flags 0, flags 1, flags 2, true⟩))

/-- An expiry of the frame deadline in MAINS: one missed epoch to IPU, the deadline 1.0 s on, the third miss in a row to
LOST, which ECU and the two ports are told. The command makes the deadline's moment arrive, so MFP's timer moves on to
it: the model's choice (log 4). -/
def Obligations.FrameDeadlineExpires : Prop :=
  ∀ (s : State) (d : Nat), s.ssv.supply = .mains → s.mfp.deadline = some d →
    let m := s.mfp
    let misses := if m.port = .lost then m.misses else min 3 (m.misses + 1)
    let enters := m.port ≠ .lost ∧ misses = 3
    exec .frameDeadlineExpiry s = .next
      { s with
        mfp :=
          { m with
            port := if enters then .lost else m.port
            misses := misses
            reported := min 65535 (m.reported + 1)
            timer := max m.timer d
            deadline := some (d + 1000) }
        mail :=
          { s.mail with
            ipuEnergy := s.mail.ipuEnergy ++ [.missed]
            ecuMfp := s.mail.ecuMfp ++ (if enters then [.port .lost] else [])
            ulk := s.mail.ulk ++ (if enters then [⟨.measurementLost, true⟩] else [])
            slk := s.mail.slk ++ (if enters then [⟨.measurementLost, true⟩] else []) } }

/-! ## CCK -/

/-- READ_TIME answers the clock as CCK holds it. -/
def Obligations.ReadTimeAnswersClock : Prop :=
  ∀ (s : State) (p : PortId) (tag : Byte), Admitted s p 0x20 [] →
    let c := s.cck
    let d := dateOf c.time
    exec (.readTime p tag []) s = .next
      (answered s p 0x20 tag .ok
        (be 4 c.time ++ be 1 (if c.valid then 0 else 1) ++ be 1 c.gen
          ++ be 2 d.year ++ be 1 d.month ++ be 1 d.day ++ be 1 ((c.time / 86400 + 5) % 7)
          ++ be 1 (c.time % 86400 / 60 / 60) ++ be 1 (c.time % 86400 / 60 % 60) ++ be 1 (c.time % 60)))

/-- SET_TIME: the time given, VALID, the second phase begun again, the next generation, a SET notice to each owner, and
TIME_UNSET out of the Utility Link's set when the clock was UNSET. -/
def Obligations.SetTimeChangesClock : Prop :=
  ∀ (s : State) (p : PortId) (tag : Byte) (payload : List Byte),
    Admitted s p 0x21 payload → payload.length = 4 →
    let time := ofBe payload
    let gen := (s.cck.gen + 1) % 256
    let mail := s.mail.notifyAll ⟨.set, s.cck.time, time, s.cck.gen, gen, s.cck.valid, true⟩
    exec (.setTime p tag payload) s = .next
      (answered
        { s with
          cck := { s.cck with time := time, phaseMs := 0, valid := true, gen := gen }
          mail := { mail with ulk := if s.cck.valid then mail.ulk else mail.ulk ++ [⟨.timeUnset, false⟩] } }
        p 0x21 tag .ok (be 4 time ++ be 1 gen))

/-- ADJUST_TIME: refused on an UNSET clock or out of range, nothing for 0, a TRIM that keeps the generation, or an ADJUST
that takes the next one. -/
def Obligations.AdjustTimeByKind : Prop :=
  ∀ (s : State) (p : PortId) (tag : Byte) (payload : List Byte) (iv : OpenInterval),
    Admitted s p 0x22 payload → payload.length = 4 → s.ipu.interval = some iv →
    let delta := signed32 (ofBe payload)
    let target := (s.cck.time : Int) + delta
    let time := target.toNat
    let len := s.ipu.length * 60
    let refused := s.cck.valid = false ∨ target < 0 ∨ 4294967295 < target
    let small := delta.natAbs ≤ 30 ∧ s.cck.time / len = time / len ∧ iv.start ≤ time
    let gen := (s.cck.gen + 1) % 256
    (refused → exec (.adjustTime p tag payload) s = .next (answered s p 0x22 tag .badArgument []))
    ∧ (¬ refused → delta = 0 →
        exec (.adjustTime p tag payload) s = .next
          (answered s p 0x22 tag .ok (be 4 s.cck.time ++ be 1 s.cck.gen ++ be 1 0xFF)))
    ∧ (¬ refused → delta ≠ 0 → small →
        exec (.adjustTime p tag payload) s = .next
          (answered
            { s with
              cck := { s.cck with time := time }
              mail := s.mail.notifyAll ⟨.trim, s.cck.time, time, s.cck.gen, s.cck.gen, true, true⟩ }
            p 0x22 tag .ok (be 4 time ++ be 1 s.cck.gen ++ be 1 0)))
    ∧ (¬ refused → delta ≠ 0 → ¬ small →
        exec (.adjustTime p tag payload) s = .next
          (answered
            { s with
              cck := { s.cck with time := time, gen := gen }
              mail := s.mail.notifyAll ⟨.adjust, s.cck.time, time, s.cck.gen, gen, true, true⟩ }
            p 0x22 tag .ok (be 4 time ++ be 1 gen ++ be 1 1)))

/-- The advance by 1 s in MAINS: each armed slot at or before the new time gives one due event and becomes absent. From
the last time it goes to 0, UNSET, the next generation, with a WRAP notice to each owner. A slot armed at or before the
present time gives its due event at once. No slot is tested by an advance or an arming while its owner's change notice waits.
An owner that takes a message of CCK tests its slot in that message's turn: against CCK's time, and where the notice of a
later change waits against the time reached before that change, the due event in line ahead of that notice, so that each change
has its test. The turns are the model's reading (log 17), and that the advance's command needs no particular second phase is
its choice (log 4). -/
def Obligations.ClockAdvances : Prop :=
  (∀ s : State, s.ssv.supply = .mains → s.cck.time < 4294967295 →
      ∃ t, exec .clockAdvance s = .next t
        ∧ t = { s with cck := t.cck, mail := t.mail }
        ∧ t.cck = { s.cck with time := s.cck.time + 1, phaseMs := 0, due := t.cck.due }
        ∧ t.mail = { s.mail with clockIpu := t.mail.clockIpu, clockTcu := t.mail.clockTcu,
                                 clockBfu := t.mail.clockBfu, clockEcu := t.mail.clockEcu }
        ∧ ∀ o,
            (s.noticeWaits o = true → t.cck.due.get o = s.cck.due.get o ∧ t.mail.clock o = s.mail.clock o)
            ∧ (s.cck.due.get o = none → t.cck.due.get o = none ∧ t.mail.clock o = s.mail.clock o)
            ∧ (∀ d, s.cck.due.get o = some d → s.cck.time + 1 < d →
                t.cck.due.get o = some d ∧ t.mail.clock o = s.mail.clock o)
            ∧ (∀ d, s.cck.due.get o = some d → d ≤ s.cck.time + 1 → s.noticeWaits o = false →
                t.cck.due.get o = none
                ∧ t.mail.clock o = s.mail.clock o ++ [.due ⟨d, s.cck.time + 1, s.cck.gen, .byAdvance⟩]))
  ∧ (∀ s : State, s.ssv.supply = .mains → s.cck.time = 4294967295 →
      let gen := (s.cck.gen + 1) % 256
      let mail := s.mail.notifyAll ⟨.wrap, s.cck.time, 0, s.cck.gen, gen, s.cck.valid, false⟩
      exec .clockAdvance s = .next
        { s with
          cck := { s.cck with time := 0, phaseMs := 0, valid := false, gen := gen }
          mail := { mail with ulk := mail.ulk ++ [⟨.timeUnset, true⟩] } })
  ∧ (∀ (s : State) (o : Owner) (t : Option Nat) (how : Reached), s.ssv.supply = .mains →
      (s.noticeWaits o = true ∨ (∀ x, t = some x → s.cck.time < x) →
        s.arm o t how = { s with cck := { s.cck with due := s.cck.due.put o t } })
      ∧ (∀ x, t = some x → x ≤ s.cck.time → s.noticeWaits o = false →
        s.arm o t how =
          { s with
            cck := { s.cck with due := s.cck.due.put o none }
            mail := s.mail.addClock o (.due ⟨x, s.cck.time, s.cck.gen, how⟩) }))
  ∧ (∀ (s : State) (o : Owner) (t : Option Nat) (how : Reached),
      ((∀ n, ClockMail.notice n ∉ s.mail.clock o) → s.armInTurn o t how = s.arm o t how)
      ∧ (∀ pre n post, s.mail.clock o = pre ++ .notice n :: post → (∀ m, ClockMail.notice m ∉ pre) →
          ((∀ x, t = some x → n.oldTime < x) →
            s.armInTurn o t how = { s with cck := { s.cck with due := s.cck.due.put o t } })
          ∧ (∀ x, t = some x → x ≤ n.oldTime →
            s.armInTurn o t how =
              { s with
                cck := { s.cck with due := s.cck.due.put o none }
                mail := s.mail.putClock o (pre ++ .due ⟨x, n.oldTime, n.oldGen, how⟩ :: .notice n :: post) })))

/-! ## TCU -/

/-- The band of a VALID clock under an active calendar is that of the last switch point at or before the minute of the day,
in the profile of a special day with the year, else of one without a year, else of the weekday; without an active calendar
it is 1, and the default band of one under an UNSET clock. The activation boundary is the first interval boundary later than
the present time and at or after the activation time; it is absent under an UNSET clock and without a waiting calendar. TCU
arms the earliest of the next switch point of today, the next midnight and the boundary; without an active calendar or under
an UNSET clock the boundary alone. -/
def Obligations.BandAndBoundaryDecided : Prop :=
  (∀ (u : Tcu) (t : Nat),
      (u.active = none → ∀ valid, u.decide t valid = 1)
      ∧ (∀ r, u.active = some r → u.decide t false = r.calendar.defaultBand)
      ∧ (∀ r i ps k q, u.active = some r →
          (r.calendar.profileFor (dateOf t) (weekday t) = some i) →
          r.calendar.profiles.toList[i]? = some (some ps) → ps.Pairwise (fun a b => a.minute < b.minute) →
          ps[k]? = some q → q.minute ≤ t % 86400 / 60 →
          (∀ q', ps[k + 1]? = some q' → t % 86400 / 60 < q'.minute) →
          u.decide t true = q.band)
      ∧ (∀ (c : Calendar) (d : Date) (wd : Nat) (x : SpecialDay),
          c.specials.Pairwise (fun a b => a.sameDate b = false) → x ∈ c.specials → x.month = d.month → x.day = d.day →
          (x.year = some d.year → c.profileFor d wd = some x.profile)
          ∧ (x.year = none → (∀ y ∈ c.specials, y.month = d.month → y.day = d.day → y.year ≠ some d.year) →
              c.profileFor d wd = some x.profile))
      ∧ (∀ (c : Calendar) (d : Date) (wd : Nat) (e : Option Nat),
          (∀ x ∈ c.specials, x.month = d.month → x.day = d.day → x.year ≠ some d.year ∧ x.year ≠ none) →
          c.week.toList[wd]? = some e → c.profileFor d wd = e))
  ∧ (∀ (u : Tcu) (minutes t : Nat), 0 < minutes →
      (∀ r, u.slot = .waiting r → ∃ b, u.boundaryAt minutes t true = some b
        ∧ b % (minutes * 60) = 0 ∧ t < b ∧ r.calendar.activation ≤ b
        ∧ ∀ b', b' % (minutes * 60) = 0 → t < b' → r.calendar.activation ≤ b' → b ≤ b')
      ∧ u.boundaryAt minutes t false = none
      ∧ ((∀ r, u.slot ≠ .waiting r) → ∀ valid, u.boundaryAt minutes t valid = none))
  ∧ (∀ (u : Tcu) (t : Nat),
      (∀ valid, u.active = none ∨ valid = false → u.dueTime t valid = u.boundary)
      ∧ (∀ r, u.active = some r →
          let points := r.calendar.pointsAt t
          let today := t / 86400 * 86400
          let midnight := today + 86400
          let upTo (x : Nat) : Nat := match u.boundary with | some b => min x b | none => x
          (∀ i, r.calendar.profileFor (dateOf t) (weekday t) = some i →
            (∀ ps, r.calendar.profiles.toList[i]? = some (some ps) → points = ps)
            ∧ (r.calendar.profiles.toList[i]? = some none → points = []))
          ∧ (r.calendar.profileFor (dateOf t) (weekday t) = none → points = [])
          ∧ ((∀ q ∈ points, q.minute ≤ t % 86400 / 60) → u.dueTime t true = some (upTo midnight))
          ∧ (∀ (k : Nat) (q : SwitchPoint), points[k]? = some q → t % 86400 / 60 < q.minute →
              (∀ (j : Nat) (q' : SwitchPoint), j < k → points[j]? = some q' → q'.minute ≤ t % 86400 / 60) →
              u.dueTime t true = some (upTo (min (today + q.minute * 60) midnight)))))

/-- TCU takes a due event: a waiting calendar whose boundary is reached becomes active; the band is decided, and reported when
it changes; the slot is armed again. In FAULT the activation stands without its mark. Each is said for a due event taken at the
time it was delivered, and for one taken later or before the notice of a change, whose slot may be due at once (log 17). That the activation mark is one program is the
model's choice (log 31). So is that the two roles change places also where no calendar is active and the waiting one stands in
sector 3 (log 15), where R74 says besides that the sector that held the waiting calendar is the active-role sector. -/
def Obligations.TariffDueEventTaken : Prop :=
  (∀ (s : State) (d : Due) (rest : List ClockMail),
      s.ssv.supply = .mains → s.mail.clockTcu = .due d :: rest → d.present = s.cck.time →
      (∀ n, .notice n ∈ rest → n.oldTime ≤ s.cck.time) → (∀ b, s.tcu.boundary = some b → s.cck.time < b) →
      let band := s.tcu.decide s.cck.time s.cck.valid
      exec .tcuDueEvent s = .next
        { s with
          tcu := { s.tcu with band := band }
          cck := { s.cck with due := { s.cck.due with tcu := s.tcu.dueTime s.cck.time s.cck.valid } }
          mail :=
            { s.mail with
              clockTcu := rest
              ipuBands := s.mail.ipuBands ++ (if band = s.tcu.band then [] else [⟨band, s.cck.time⟩]) } })
  ∧ (∀ (s : State) (d : Due) (rest : List ClockMail) (r : CalendarRecord) (b : Nat),
      s.ssv.supply = .mains → s.mail.clockTcu = .due d :: rest → d.present = s.cck.time →
      (∀ n, .notice n ∈ rest → n.oldTime ≤ s.cck.time) → s.tcu.slot = .waiting r → s.tcu.boundary = some b → b ≤ s.cck.time → s.dsc.fault = false →
      let u : Tcu :=
        { s.tcu with active := some r, activeSector := 7 - s.tcu.activeSector, slot := .empty, boundary := none }
      let band := u.decide s.cck.time s.cck.valid
      let t := placed s .calendarMark [.program (.activationMark u.activeSector)] true
      exec .tcuDueEvent s = .next
        { t with
          tcu := { u with band := band }
          cck := { s.cck with due := { s.cck.due with tcu := u.dueTime s.cck.time s.cck.valid } }
          mail :=
            { s.mail with
              clockTcu := rest
              ipuActivations := s.mail.ipuActivations ++ [⟨b, r.calendar.id⟩]
              ipuBands := s.mail.ipuBands ++ (if band = s.tcu.band then [] else [⟨band, s.cck.time⟩]) } })
  ∧ (∀ (s : State) (d : Due) (rest : List ClockMail),
      s.ssv.supply = .mains → s.mail.clockTcu = .due d :: rest →
      let p := d.present
      let valid := s.cck.valid
      let bands (band : Nat) : List BandNotice := s.mail.ipuBands ++ (if band = s.tcu.band then [] else [⟨band, p⟩])
      ((∀ r b, s.tcu.slot = .waiting r → s.tcu.boundary = some b → p < b) →
        let band := s.tcu.decide p valid
        exec .tcuDueEvent s = .next
          (State.armInTurn
            { s with tcu := { s.tcu with band := band }, mail := { s.mail with clockTcu := rest, ipuBands := bands band } }
            .tcu (s.tcu.dueTime p valid) .byAdvance))
      ∧ (∀ r b, s.tcu.slot = .waiting r → s.tcu.boundary = some b → b ≤ p →
        let u : Tcu :=
          { s.tcu with active := some r, activeSector := 7 - s.tcu.activeSector, slot := .empty, boundary := none }
        let band := u.decide p valid
        let t := if s.dsc.fault then s else placed s .calendarMark [.program (.activationMark u.activeSector)] true
        exec .tcuDueEvent s = .next
          (State.armInTurn
            { t with
              tcu := { u with band := band }
              mail :=
                { s.mail with
                  clockTcu := rest
                  ipuActivations := s.mail.ipuActivations ++ [⟨b, r.calendar.id⟩]
                  ipuBands := bands band } }
            .tcu (u.dueTime p valid) .byAdvance)))

/-- TCU takes a change notice or a report of a new interval length: the activation boundary computed again, and the slot
armed; the band is decided at a change of time. A notice taken late, or before the notice of a later change, has its due test
too (log 17). That a report in the very second of the boundary moves it on is the model's
choice (log 31). -/
def Obligations.TariffNoticeTaken : Prop :=
  ∀ s : State, s.ssv.supply = .mains → 0 < s.ipu.length →
    let u (t : Nat) (valid : Bool) : Tcu := { s.tcu with boundary := s.tcu.boundaryAt s.ipu.length t valid }
    (∀ n rest, s.mail.clockTcu = .notice n :: rest →
      let v := u n.newTime n.newValid
      let band := v.decide n.newTime n.newValid
      let w : State :=
        { s with
          tcu := { v with band := band }
          mail :=
            { s.mail with
              clockTcu := rest
              ipuBands := s.mail.ipuBands ++ (if band = s.tcu.band then [] else [⟨band, n.newTime⟩]) } }
      let due := v.dueTime n.newTime n.newValid
      exec .tcuChangeNotice s = .next (w.armInTurn .tcu due .byChange)
      ∧ (n.newTime = s.cck.time → (∀ m, .notice m ∈ rest → m.oldTime ≤ n.newTime) →
        exec .tcuChangeNotice s = .next { w with cck := { s.cck with due := { s.cck.due with tcu := due } } }))
    ∧ (∀ k, s.mail.tcuLengths = k + 1 →
      let v := u s.cck.time s.cck.valid
      exec .tcuIntervalLengthReport s = .next
        { s with
          tcu := v
          cck := { s.cck with due := { s.cck.due with tcu := v.dueTime s.cck.time s.cck.valid } }
          mail := { s.mail with tcuLengths := k } })

/-- BEGIN_CALENDAR: from EMPTY the session opens at once; from WAITING the waiting calendar is withdrawn and its sector's
erase asked of DSC. -/
def Obligations.BeginCalendarOpensSession : Prop :=
  ∀ (s : State) (p : PortId) (tag : Byte) (payload : List Byte),
    Admitted s p 0x31 payload → payload.length = 7 →
    let staged : Calendar :=
      { id := ofBe (payload.take 2), defaultBand := ofBe ((payload.drop 2).take 1), activation := ofBe (payload.drop 3),
        profiles := Vector.replicate 8 none, week := Vector.replicate 7 none, specials := [] }
    (s.tcu.slot = .empty →
      exec (.beginCalendar p tag payload) s = .next
        (answered { s with tcu := { s.tcu with slot := .loading staged, sessionMs := some 300000 } } p 0x31 tag .ok []))
    ∧ (∀ r, s.tcu.slot = .waiting r →
      let u : Tcu :=
        { s.tcu with
          boundary := none, discarded := r.seq, slot := .loading staged, sessionMs := none
          action := .discardErase r s.tcu.discarded }
      exec (.beginCalendar p tag payload) s = .next
        (asked
          (waiting
            { s with
              tcu := u
              cck := { s.cck with due := { s.cck.due with tcu := u.dueTime s.cck.time s.cck.valid } } }
            p 0x31 tag)
          (.calendarErase (nextOrigin s p)) [.erase (7 - s.tcu.activeSector)] true))

/-- The session requests that load: BAD_ARGUMENT or LIST_FULL with the staged calendar unchanged, or the staged calendar
changed as asked. Each sets the session timer to 300 s again where no store action is under way. While one is, as after a
return from HOLDUP, the timer stays stopped: the model's reading of R64 and R65 (log 28). -/
def Obligations.SessionLoadsStagedCalendar : Prop :=
  ∀ (s : State) (p : PortId) (tag : Byte) (payload : List Byte) (c : Calendar), s.tcu.slot = .loading c →
    let ms := if s.tcu.action = .idle then some 300000 else none
    let after (c' : Calendar) : State := { s with tcu := { s.tcu with slot := .loading c', sessionMs := ms } }
    (∀ i ps, Admitted s p 0x32 payload → readDayProfile payload = some (i, ps) →
      let bad := 7 < i ∨ ps.length = 0 ∨ 8 < ps.length ∨ ∃ q ∈ ps, 1439 < q.minute
      (bad → exec (.loadDayProfile p tag payload) s = .next (answered (after c) p 0x32 tag .badArgument []))
      ∧ (¬ bad → exec (.loadDayProfile p tag payload) s = .next
          (answered (after { c with profiles := c.profiles.setIfInBounds i (some ps) }) p 0x32 tag .ok [])))
    ∧ (∀ es, Admitted s p 0x33 payload → readWeek payload = some es →
      let bad := es.length = 0 ∨ 7 < es.length ∨ ∃ e ∈ es, 6 < e.1 ∨ 7 < e.2
      (bad → exec (.loadWeek p tag payload) s = .next (answered (after c) p 0x33 tag .badArgument []))
      ∧ (¬ bad → exec (.loadWeek p tag payload) s = .next
          (answered
            (after { c with week := es.foldl (fun w e => w.setIfInBounds e.1 (some e.2)) c.week }) p 0x33 tag .ok [])))
    ∧ (∀ es, Admitted s p 0x34 payload → readSpecialList payload = some es →
      let bad := es.length = 0 ∨ 4 < es.length ∨ ∃ e ∈ es, ¬ AllowedDay e
      (bad → exec (.loadSpecialDay p tag payload) s = .next (answered (after c) p 0x34 tag .badArgument []))
      ∧ (¬ bad → 32 < c.specials.length + es.length →
          exec (.loadSpecialDay p tag payload) s = .next (answered (after c) p 0x34 tag .listFull []))
      ∧ (¬ bad → c.specials.length + es.length ≤ 32 →
          exec (.loadSpecialDay p tag payload) s = .next
            (answered (after { c with specials := c.specials ++ es }) p 0x34 tag .ok [])))

/-- The session's ends: ABORT_CALENDAR, and the timer, which raises SESSION_ENDED. That the timer's command needs no
particular time left is the model's choice (log 4), and so is that ABORT_CALENDAR ends the wait for a store operation (log
15). -/
def Obligations.SessionEndsEmpty : Prop :=
  ∀ s : State,
    (∀ p tag c, Admitted s p 0x36 [] → s.tcu.slot = .loading c →
      exec (.abortCalendar p tag []) s = .next
        (answered { s with tcu := { s.tcu with slot := .empty, sessionMs := none, action := .idle } } p 0x36 tag .ok []))
    ∧ (∀ ms, s.ssv.supply = .mains → s.tcu.sessionMs = some ms →
      exec .sessionTimerExpiry s = .next
        { s with
          tcu := { s.tcu with slot := .empty, sessionMs := none }
          mail := { s.mail with ulk := s.mail.ulk ++ [⟨.sessionEnded, true⟩] } })

/-- COMMIT_CALENDAR: VALIDATION_FAILED with the check's reason, or the calendar's write asked of DSC under the next write
sequence. A failed validation sets the session timer to 300 s again where no store action is under way; that the timer stays
stopped while one is is the model's reading of R65 (log 28), and that a second write replaces the store action is the
model's choice (log 15). -/
def Obligations.CommitCalendarJudges : Prop :=
  ∀ (s : State) (p : PortId) (tag : Byte) (c : Calendar), Admitted s p 0x35 [] → s.tcu.slot = .loading c →
    let lengths := s.ipu.length :: (s.ipu.pendingLength.toList ++ s.ipu.underWrite.toList)
    let sector := 7 - s.tcu.activeSector
    let seq := s.tcu.nextSeq
    (∀ r item, c.validate lengths = some (r, item) →
      exec (.commitCalendar p tag []) s = .next
        (answered
          { s with tcu := { s.tcu with sessionMs := if s.tcu.action = .idle then some 300000 else none } }
          p 0x35 tag .validationFailed (be 1 r.code ++ be 1 (item.getD 0xFF))))
    ∧ (c.validate lengths = none →
      exec (.commitCalendar p tag []) s = .next
        (asked
          (waiting
            { s with tcu := { s.tcu with action := .commitWrite seq c, sessionMs := none, nextSeq := seq + 1 } }
            p 0x35 tag)
          (.calendarWrite seq (nextOrigin s p))
          [.erase sector, .program (.calendarBody sector 0), .program (.calendarBody sector 1),
            .program (.calendarMarker sector ⟨c, seq⟩)] true))

/-- A calendar passes the checks of COMMIT_CALENDAR exactly when it meets every validity condition. One that does not is
refused by the first check that fails, in their order, with the reason and the item of that check. -/
def Obligations.ValidationAcceptsValidCalendars : Prop :=
  ∀ (c : Calendar) (lengths : List Nat),
    (c.validate lengths = none ↔
      (1 ≤ c.defaultBand ∧ c.defaultBand ≤ 6)
      ∧ (∀ (i : Nat) (ps : List SwitchPoint), c.profiles.toList[i]? = some (some ps) →
          (∃ q t, ps = q :: t ∧ q.minute = 0) ∧ ps.Pairwise (fun a b => a.minute < b.minute)
          ∧ ∀ q ∈ ps, 1 ≤ q.band ∧ q.band ≤ 6 ∧ ∀ l ∈ lengths, q.minute % l = 0)
      ∧ (∀ e ∈ c.week.toList, ∃ i ps, e = some i ∧ c.profiles.toList[i]? = some (some ps))
      ∧ (∀ x ∈ c.specials, ∃ ps, c.profiles.toList[x.profile]? = some (some ps))
      ∧ c.specials.Pairwise (fun x y => ¬ (x.month = y.month ∧ x.day = y.day ∧ x.year = y.year)))
    ∧ (let fails (r : Reason) (item : Option Nat) : Prop := c.validate lengths = some (r, item)
      let starts (ps : List SwitchPoint) : Prop := ∃ q t, ps = q :: t ∧ q.minute = 0
      let rises (ps : List SwitchPoint) : Prop := ps.Pairwise fun a b => a.minute < b.minute
      let banded (ps : List SwitchPoint) : Prop := ∀ q ∈ ps, 1 ≤ q.band ∧ q.band ≤ 6
      let aligned (ps : List SwitchPoint) : Prop := ∀ q ∈ ps, ∀ l ∈ lengths, q.minute % l = 0
      let good (ps : List SwitchPoint) : Prop := starts ps ∧ rises ps ∧ banded ps ∧ aligned ps
      let loaded (i : Nat) : Prop := ∃ ps, c.profiles.toList[i]? = some (some ps)
      let same (x y : SpecialDay) : Prop := x.month = y.month ∧ x.day = y.day ∧ x.year = y.year
      let band := 1 ≤ c.defaultBand ∧ c.defaultBand ≤ 6
      let profiles := ∀ (i : Nat) (ps : List SwitchPoint), c.profiles.toList[i]? = some (some ps) → good ps
      let week := ∀ e ∈ c.week.toList, e ≠ none
      let named := ∀ (e : Nat), some e ∈ c.week.toList → loaded e
      (¬ band → fails .defaultBandBad none)
      ∧ (∀ (i : Nat) (ps : List SwitchPoint), band → c.profiles.toList[i]? = some (some ps) →
          (∀ (j : Nat) (qs : List SwitchPoint), j < i → c.profiles.toList[j]? = some (some qs) → good qs) →
          (¬ starts ps → fails .firstNotMidnight (some i))
          ∧ (starts ps → ¬ rises ps → fails .notAscending (some i))
          ∧ (starts ps → rises ps → ¬ banded ps → fails .badBand (some i))
          ∧ (starts ps → rises ps → banded ps → ¬ aligned ps → fails .misalignedSwitch (some i)))
      ∧ (∀ (d : Nat), band → profiles → c.week.toList[d]? = some none →
          (∀ (j : Nat), j < d → c.week.toList[j]? ≠ some none) → fails .weekIncomplete (some d))
      ∧ (∀ (d e : Nat), band → profiles → week → c.week.toList[d]? = some (some e) → ¬ loaded e →
          (∀ (j k : Nat), j < d → c.week.toList[j]? = some (some k) → loaded k) → fails .profileMissing (some d))
      ∧ (∀ (n : Nat) (x : SpecialDay), band → profiles → week → named → c.specials[n]? = some x → ¬ loaded x.profile →
          (∀ (j : Nat) (y : SpecialDay), j < n → c.specials[j]? = some y → loaded y.profile) →
          fails .profileMissing (some (128 + n)))
      ∧ (∀ (m n : Nat) (x y : SpecialDay), band → profiles → week → named → (∀ z ∈ c.specials, loaded z.profile) →
          m < n → c.specials[m]? = some x → c.specials[n]? = some y → same x y →
          (∀ (j k : Nat) (u v : SpecialDay), j < k → k < n → c.specials[j]? = some u → c.specials[k]? = some v →
            ¬ same u v) →
          fails .duplicateDate (some n)))

/-- The outcomes of the calendar-region writes: the discard erase opens the session or puts the waiting calendar back;
the commit write makes the calendar written wait, or leaves the session open. That the calendar written waits whatever is
staged by then is the model's choice (log 15): R70 says that the staged calendar becomes the waiting one. Of a boundary beyond
32 bits the answer carries the low 4 bytes, which is the model's choice (log 30). -/
def Obligations.CalendarWriteOutcomes : Prop :=
  ∀ (s : State) (o : Origin) (rest : List StoreMail) (rs : List IntervalRecord) (fs : Option FrozenSet),
    s.ssv.supply = .mains → 0 < s.ipu.length →
    let w := withStoreMail s rest
    let after (u : Tcu) : State :=
      { w with
        tcu := u
        cck := { s.cck with due := { s.cck.due with tcu := u.dueTime s.cck.time s.cck.valid } } }
    (∀ r k c, s.tcu.action = .discardErase r k → s.tcu.slot = .loading c →
      (Delivers s .tcu ⟨.calendarErase o, .completed, rs, fs⟩ rest →
        exec .calendarDiscardEraseOutcome s = .next
          (concluded { w with tcu := { s.tcu with action := .idle, sessionMs := some 300000 } } o .ok []))
      ∧ (Delivers s .tcu ⟨.calendarErase o, .refused, rs, fs⟩ rest →
        let u : Tcu := { s.tcu with slot := .waiting r, discarded := k, action := .idle, sessionMs := none }
        exec .calendarDiscardEraseOutcome s = .next
          (concluded (after { u with boundary := u.boundaryAt s.ipu.length s.cck.time s.cck.valid }) o .storeFault [])))
    ∧ (∀ seq c staged, s.tcu.action = .commitWrite seq c → s.tcu.slot = .loading staged →
      (Delivers s .tcu ⟨.calendarWrite seq o, .completed, rs, fs⟩ rest →
        let u : Tcu := { s.tcu with slot := .waiting ⟨c, seq⟩, action := .idle, sessionMs := none }
        let b := u.boundaryAt s.ipu.length s.cck.time s.cck.valid
        exec .calendarCommitWriteOutcome s = .next
          (concluded (after { u with boundary := b }) o .ok (be 4 seq ++ optBe 4 b)))
      ∧ (Delivers s .tcu ⟨.calendarWrite seq o, .refused, rs, fs⟩ rest →
        exec .calendarCommitWriteOutcome s = .next
          (concluded { w with tcu := { s.tcu with action := .idle, sessionMs := some 300000 } } o .storeFault [])))

/-- READ_CALENDAR answers the part named of the calendar the role names, and BAD_ARGUMENT where there is none. HEADER, the
eight profiles and the four groups of special days are given by their bytes. -/
def Obligations.ReadCalendarAnswersPart : Prop :=
  ∀ (s : State) (p : PortId) (tag role part : Byte), Admitted s p 0x30 [role, part] →
    let named : Option CalendarRecord :=
      if role = 0 then s.tcu.active
      else if role = 1 then (match s.tcu.slot with | .waiting r => some r | _ => none)
      else none
    let answers (bytes : List Byte) : Prop :=
      exec (.readCalendar p tag [role, part]) s = .next (answered s p 0x30 tag .ok bytes)
    (∀ r, named = some r →
      let c := r.calendar
      let bit (i : Nat) : Nat := match c.profiles.toList[i]? with | some (some _) => 2 ^ i | _ => 0
      let days := (c.specials.drop (8 * (part.toNat - 9))).take 8
      (part.toNat = 0 →
        answers
          (be 2 c.id ++ be 1 c.defaultBand ++ be 4 c.activation ++ be 4 r.seq
            ++ (c.week.toList.flatMap fun e => be 1 (e.getD 0))
            ++ be 1 (bit 0 + bit 1 + bit 2 + bit 3 + bit 4 + bit 5 + bit 6 + bit 7) ++ be 1 c.specials.length))
      ∧ (∀ ps, 1 ≤ part.toNat → part.toNat ≤ 8 → c.profiles.toList[part.toNat - 1]? = some (some ps) →
          answers ([1] ++ be 1 ps.length ++ ps.flatMap fun q => be 2 q.minute ++ be 1 q.band))
      ∧ (1 ≤ part.toNat → part.toNat ≤ 8 → c.profiles.toList[part.toNat - 1]? = some none → answers [0, 0])
      ∧ (9 ≤ part.toNat → part.toNat ≤ 12 →
          answers
            (be 1 days.length
              ++ days.flatMap fun x => be 1 x.month ++ be 1 x.day ++ be 2 (x.year.getD 0) ++ be 1 x.profile)))
    ∧ (named = none ∨ 12 < part.toNat →
      exec (.readCalendar p tag [role, part]) s = .next (answered s p 0x30 tag .badArgument []))

/-! ## IPU -/

/-- An interval opens in the slot of the current length that contains its start, with nothing accumulated and the flags
its conditions give; a record is built from it with the flags a close adds. That the next number stays at its last value
once that has been given is the model's choice (log 30), and so is that an opening in the second of the supply-loss mark
carries SUPPLY_LOSS (log 31), and that a close time before the effective start gives the duration 0 (log 32). -/
def Obligations.IntervalOpensAndBuilds : Prop :=
  ∀ (u : Ipu) (iv : OpenInterval) (t c gen band : Nat), 0 < u.length →
    (let o := u.opened t gen band
     o.slotStart % (u.length * 60) = 0 ∧ o.slotStart ≤ t ∧ t < o.slotEnd ∧ o.slotEnd = o.slotStart + u.length * 60
     ∧ o.start = t ∧ o.gen = gen ∧ o.band = band ∧ o.imp = 0 ∧ o.exp = 0 ∧ o.generation = none ∧ o.missed = 0
     ∧ o.flags = { Quality.none with
         timeInvalid := !u.valid, curtailed := !u.interlockClosed, calendarChanged := u.calendarHold
         supplyLoss := (u.supplyMark.map fun m => decide (t ≤ m)).getD false })
    ∧ (let r : IntervalRecord :=
        { number := u.nextNumber, start := iv.start, gen := iv.gen, band := iv.band, duration := c - iv.start
          imp := iv.imp, exp := iv.exp, generation := iv.generation
          missed := if iv.missed = 0 then none else some iv.missed
          flags := { iv.flags with
            partialInterval := iv.flags.partialInterval || decide (iv.slotStart < iv.start ∨ c < iv.slotEnd)
            measurementGap := iv.flags.measurementGap || decide (0 < iv.missed)
            genAbsent := iv.flags.genAbsent || decide (iv.generation = none)
            registerRollback := iv.flags.registerRollback || u.owedRollback
            resetInput := iv.flags.resetInput || u.owedReset } }
       (u.numbersSpent = true → u.build iv c = u)
       ∧ (u.numbersSpent = false → u.nextNumber < 4294967295 →
          u.build iv c = { u with
            queue := if u.queue.length < 2 then u.queue ++ [r] else u.queue
            nextNumber := u.nextNumber + 1, owedRollback := false, owedReset := false })
       ∧ (u.numbersSpent = false → u.nextNumber = 4294967295 →
          u.build iv c = { u with
            queue := if u.queue.length < 2 then u.queue ++ [r] else u.queue
            numbersSpent := true, owedRollback := false, owedReset := false }))

/-- IPU adds a split increment, and a missed epoch, to the open interval, saturating; it takes the notices of its
neighbours into the open interval. The places of the messages in transit are the model's choice (log 5, 6). -/
def Obligations.OpenIntervalTakesReports : Prop :=
  (∀ (s : State) (iv : OpenInterval), s.ssv.supply = .mains → s.ipu.interval = some iv →
      (∀ sp rest, s.mail.ipuEnergy = .split sp :: rest →
        exec .ipuSplitIncrement s = .next
          { s with
            ipu := { s.ipu with
              interval := some { iv with
                imp := min 540000000 (iv.imp + sp.imp)
                exp := min 540000000 (iv.exp + sp.exp)
                generation :=
                  match sp.gen with
                  | some g => some (min 180000000 (iv.generation.getD 0 + g))
                  | none => iv.generation
                missed := min 255 (iv.missed + sp.missed)
                flags := { iv.flags with converterFault := iv.flags.converterFault || sp.fault } } }
            mail := { s.mail with ipuEnergy := rest } })
      ∧ (∀ pre rest, s.mail.ipuEnergy = pre ++ .missed :: rest → (∀ m ∈ pre, m ≠ .missed) →
        exec .ipuMissedEpochReport s = .next
          { s with
            ipu := { s.ipu with interval := some { iv with missed := min 255 (iv.missed + 1) } }
            mail := { s.mail with ipuEnergy := pre ++ rest } }))
  ∧ (∀ (s : State) (iv : OpenInterval), s.ssv.supply = .mains → s.ipu.interval = some iv →
      (∀ n rest, s.mail.ipuBands = n :: rest →
        exec .ipuBandNotice s = .next
          { s with
            ipu := { s.ipu with
              interval := some { iv with band := if iv.start ≤ n.time ∧ n.time < iv.slotEnd then n.band else iv.band } }
            mail := { s.mail with ipuBands := rest } })
      ∧ (∀ n rest, s.mail.ipuActivations = n :: rest →
        let ends := n.boundary = iv.slotEnd
        exec .ipuActivationNotice s = .next
          { s with
            ipu := { s.ipu with
              calendarHold := if ends then true else s.ipu.calendarHold
              interval := some (if ends then iv else { iv with flags := { iv.flags with calendarChanged := true } }) }
            mail := { s.mail with ipuActivations := rest } })
      ∧ (∀ closed rest, s.mail.ipuInterlock = closed :: rest →
        exec .ipuInterlockReport s = .next
          { s with
            ipu := { s.ipu with
              interlockClosed := closed
              interval := some { iv with flags := { iv.flags with curtailed := iv.flags.curtailed || !closed } } }
            mail := { s.mail with ipuInterlock := rest } })
      ∧ (∀ n, s.mail.ipuTamper = n + 1 →
        exec .ipuTamperReport s = .next
          { s with
            ipu := { s.ipu with interval := some { iv with flags := { iv.flags with tamper := true } } }
            mail := { s.mail with ipuTamper := n } }))

/-- IPU takes its due event: the interval closed at its slot end whatever the present time, the close and the demand
reported, a pending length in force where the end is a multiple of it, and the next interval opened at that end. A
next slot end already reached, before the notice of a change that waits also, is due at once (log 17). The generation of the due event is the one recorded at opening (log 30). -/
def Obligations.IntervalClosesAtSlotEnd : Prop :=
  ∀ (s : State) (d : Due) (rest : List ClockMail) (iv : OpenInterval),
    s.ssv.supply = .mains → s.mail.clockIpu = .due d :: rest → s.ipu.interval = some iv →
    let e := iv.slotEnd
    let taken := s.ipu.pendingLength.filter fun p => e % (p * 60) = 0
    let u : Ipu :=
      { s.ipu.build iv e with
        length := taken.getD s.ipu.length
        pendingLength := if taken.isSome then none else s.ipu.pendingLength }
    let next := u.opened e d.gen s.tcu.band
    let report : DemandReport :=
      ⟨iv.band, iv.imp * 36 / (10 * (s.ipu.length * 60)), iv.exp * 36 / (10 * (s.ipu.length * 60)), e⟩
    let w : State :=
      { s with
        ipu := { u with interval := some next, calendarHold := false, supplyMark := none }
        mail := { s.mail with
          clockIpu := rest
          nauCloses := s.mail.nauCloses ++ [.close, .demand report]
          mfpCloses := s.mail.mfpCloses + 1
          tcuLengths := s.mail.tcuLengths + (if taken.isSome then 1 else 0) } }
    exec .ipuDueEvent s = .next (handOver (w.armInTurn .ipu (some next.slotEnd) .byAdvance))
    ∧ (s.cck.time < next.slotEnd → (∀ n, .notice n ∈ rest → n.oldTime < next.slotEnd) →
      exec .ipuDueEvent s = .next
        (handOver { w with cck := { s.cck with due := { s.cck.due with ipu := some next.slotEnd } } }))

/-- IPU takes a change notice: a TRIM flags the open interval; any other kind closes it early at the old time and opens the
next at the new time, with a pending length in force. Each of two changes whose notices wait together has its due test (log
17). That an old time before the effective start gives the duration 0 is the
model's choice (log 32). -/
def Obligations.ChangeNoticeAtInterval : Prop :=
  ∀ (s : State) (n : Notice) (rest : List ClockMail) (iv : OpenInterval),
    s.ssv.supply = .mains → s.mail.clockIpu = .notice n :: rest → s.ipu.interval = some iv →
    0 < s.ipu.pendingLength.getD s.ipu.length →
    let flagged : OpenInterval := { iv with flags := { iv.flags with clockAdjusted := true } }
    (n.kind = .trim →
      let w : State := { s with ipu := { s.ipu with interval := some flagged }, mail := { s.mail with clockIpu := rest } }
      exec .ipuChangeNotice s = .next (w.armInTurn .ipu s.cck.due.ipu .byChange)
      ∧ ((∀ d, s.cck.due.ipu = some d → s.cck.time < d ∧ ∀ m, .notice m ∈ rest → m.oldTime < d) →
        exec .ipuChangeNotice s = .next w))
    ∧ (n.kind ≠ .trim →
      let u : Ipu :=
        { s.ipu.build flagged n.oldTime with
          length := s.ipu.pendingLength.getD s.ipu.length, pendingLength := none, valid := n.newValid }
      let next := u.opened n.newTime n.newGen s.tcu.band
      let report : DemandReport :=
        ⟨iv.band, iv.imp * 36 / (10 * (s.ipu.length * 60)), iv.exp * 36 / (10 * (s.ipu.length * 60)), n.oldTime⟩
      let w : State :=
        { s with
          ipu := { u with interval := some next, calendarHold := false, supplyMark := none }
          mail := { s.mail with
            clockIpu := rest
            nauCloses := s.mail.nauCloses ++ [.close, .demand report]
            mfpCloses := s.mail.mfpCloses + 1
            tcuLengths := s.mail.tcuLengths + (if s.ipu.pendingLength.isSome then 1 else 0) } }
      exec .ipuChangeNotice s = .next (handOver (w.armInTurn .ipu (some next.slotEnd) .byChange))
      ∧ (n.newTime = s.cck.time → (∀ m, .notice m ∈ rest → m.oldTime < next.slotEnd) →
        exec .ipuChangeNotice s = .next
          (handOver { w with cck := { s.cck with due := { s.cck.due with ipu := some next.slotEnd } } })))

/-- A profile append settles: completed, its record joins the ring, both readers count it and an image is wanted; refused, it
is dropped. The write position advances either way: past a sector's last slot the erase-ahead of the next sector is
requested, else the next record is handed over. That a dropped record moves no reader's cursor, on an
empty ring too, is the model's choice (log 32). -/
def Obligations.ProfileAppendSettles : Prop :=
  ∀ (s : State) (r : IntervalRecord) (queued : List IntervalRecord) (rest : List StoreMail)
    (rs : List IntervalRecord) (fs : Option FrozenSet),
    s.ssv.supply = .mains → s.ipu.queue = r :: queued →
    let w := withStoreMail s rest
    let pos := (s.ipu.writePos + 1) % 4224
    let u : Ipu := { s.ipu with queue := queued, handed := false, writePos := pos }
    let goOn (t : State) : State :=
      if pos % 128 = 0 then
        asked { t with ipu := { t.ipu with erase := .requested } } (.profileErase (15 + pos / 128))
          [.erase (15 + pos / 128)] true
      else handOver t
    (Delivers s .ipu ⟨.append, .refused, rs, fs⟩ rest →
      exec .profileAppendSettled s = .next (goOn { w with ipu := u }))
    ∧ (Delivers s .ipu ⟨.append, .completed, rs, fs⟩ rest →
      let uReady := s.ipu.utility.ready + 1
      let sReady := s.ipu.site.ready + 1
      let uRaise := s.ipu.utility.threshold ≤ uReady
      let sRaise := s.ipu.site.threshold ≤ sReady
      exec .profileAppendSettled s = .next
        (goOn
          { w with
            ipu := { u with
              ring := s.ipu.ring ++ [⟨r.number, s.ipu.writePos⟩]
              utility := { s.ipu.utility with ready := if uRaise then 0 else uReady }
              site := { s.ipu.site with ready := if sRaise then 0 else sReady } }
            mail := { w.mail with
              ulk := s.mail.ulk ++ (if uRaise then [⟨.profileReady, true⟩] else [])
              slk := s.mail.slk ++ (if sRaise then [⟨.profileReady, true⟩] else []) } }).wantImage)

/-- At an erase-ahead's grant the sector's records leave the ring at once, and each reader whose cursor lies at or below
them gain their unread count and a cursor past them; at its completion the queue's head is handed over again. A refusal
changes nothing: that an erase refused after its grant stays GRANTED is the model's choice (log 31), and so is that a cursor set
past them may lie below the oldest record retained, where the records above were dropped (log 32). -/
def Obligations.EraseAheadAtProfile : Prop :=
  ∀ (s : State) (sector : Nat) (rest : List StoreMail) (rs : List IntervalRecord) (fs : Option FrozenSet),
    s.ssv.supply = .mains →
    let w := withStoreMail s rest
    let gone := s.ipu.ring.filter fun e => sectorOfSlot e.pos == sector
    (Delivers s .ipu ⟨.profileErase sector, .granted, rs, fs⟩ rest →
      (gone = [] →
        exec .profileEraseGrant s = .next { w with ipu := { s.ipu with erase := .granted } })
      ∧ (∀ h, (∃ e ∈ gone, e.number = h) → (∀ e ∈ gone, e.number ≤ h) →
        let passed (r : Reader) : Reader :=
          if r.cursor ≤ h then
            { r with
              cursor := h + 1
              skip := min 65535 (r.skip + (gone.filter fun e => r.cursor ≤ e.number).length) }
          else r
        exec .profileEraseGrant s = .next
          { w with ipu := { s.ipu with
            erase := .granted
            ring := s.ipu.ring.filter fun e => sectorOfSlot e.pos != sector
            utility := passed s.ipu.utility
            site := passed s.ipu.site } }))
    ∧ (Delivers s .ipu ⟨.profileErase sector, .completed, rs, fs⟩ rest →
      exec .profileEraseOutcome s = .next (handOver { w with ipu := { s.ipu with erase := .idle } }))
    ∧ (Delivers s .ipu ⟨.profileErase sector, .refused, rs, fs⟩ rest → exec .profileEraseOutcome s = .next w)

/-- READ_PROFILE and READ_PROFILE_AT: BAD_ARGUMENT for a count outside 1..8; else the records selected are asked of DSC
at priority 6, and answered with those of them still in the ring when the read completes, each as its 32 bytes stand in the
array; no reader changes. That an empty selection is answered at once is the model's choice (log 18), and so are what a read
of the array carries (log 21) and that a duration above 65,535 s is written modulo 65,536 (log 32). -/
def Obligations.ProfileReadsSelect : Prop :=
  ∀ (s : State) (p : PortId) (tag : Byte),
    let limit := match s.ipu.queue with | [] => s.ipu.nextNumber | r :: _ => r.number
    let oldest := match s.ipu.ring with | [] => limit | e :: _ => e.number
    let pick (first n : Nat) : List RingEntry :=
      (s.ipu.ring.filter fun e => decide (first ≤ e.number ∧ e.number < limit)).take n
    let reader := if p = .slk then s.ipu.site else s.ipu.utility
    let cursorHead := be 4 reader.cursor ++ be 2 reader.skip ++ be 4 limit
    let atHead := be 4 oldest ++ be 4 limit
    (∀ payload, Admitted s p 0x40 payload → payload.length = 1 →
      let n := ofBe payload
      let es := pick reader.cursor n
      ((n < 1 ∨ 8 < n) → exec (.readProfile p tag payload) s = .next (answered s p 0x40 tag .badArgument []))
      ∧ (1 ≤ n → n ≤ 8 → es = [] →
          exec (.readProfile p tag payload) s = .next (answered s p 0x40 tag .ok (cursorHead ++ be 1 0)))
      ∧ (1 ≤ n → n ≤ 8 → es ≠ [] →
          exec (.readProfile p tag payload) s = .next
            (placed (waiting s p 0x40 tag) (.profileRead true (es.map fun e => e.number) (nextOrigin s p)) (readOps es) true)))
    ∧ (∀ payload, Admitted s p 0x42 payload → payload.length = 5 →
      let n := ofBe (payload.drop 4)
      let es := pick (ofBe (payload.take 4)) n
      ((n < 1 ∨ 8 < n) → exec (.readProfileAt p tag payload) s = .next (answered s p 0x42 tag .badArgument []))
      ∧ (1 ≤ n → n ≤ 8 → es = [] →
          exec (.readProfileAt p tag payload) s = .next (answered s p 0x42 tag .ok (atHead ++ be 1 0)))
      ∧ (1 ≤ n → n ≤ 8 → es ≠ [] →
          exec (.readProfileAt p tag payload) s = .next
            (placed (waiting s p 0x42 tag) (.profileRead false (es.map fun e => e.number) (nextOrigin s p)) (readOps es) true)))
    ∧ (∀ cur chosen serial rs fs rest,
      Delivers s .ipu ⟨.profileRead cur chosen ⟨p, serial⟩, .completed, rs, fs⟩ rest →
      let kept := rs.filter fun r => chosen.contains r.number && s.ipu.ring.any fun e => e.number == r.number
      exec .profileReadCompletion s = .next
        (concluded (withStoreMail s rest) ⟨p, serial⟩ .ok
          ((if cur then cursorHead else atHead) ++ be 1 kept.length ++ kept.flatMap IntervalRecord.bytes)))
    ∧ (∀ (r : IntervalRecord) (n : Nat),
      let f := r.flags
      let bit (place : Nat) (b : Bool) : Nat := if b then 2 ^ place else 0
      let flags :=
        bit 0 f.partialInterval + bit 1 f.clockAdjusted + bit 2 f.timeInvalid + bit 3 f.measurementGap
          + bit 4 f.converterFault + bit 5 f.supplyLoss + bit 6 f.tamper + bit 7 f.curtailed + bit 8 f.calendarChanged
          + bit 9 f.registerRollback + bit 10 f.resetInput + bit 11 f.genAbsent
      let fields :=
        be 4 r.number ++ be 4 r.start ++ be 1 r.gen ++ be 1 r.band ++ be 2 r.duration ++ be 4 r.imp ++ be 4 r.exp
          ++ be 4 (r.generation.getD 0) ++ be 2 flags ++ be 1 (r.missed.getD 0) ++ [0, 0, 0]
      r.bytes = fields ++ be 2 (crc16 fields).toNat ∧ r.bytes.length = 32 ∧ validRecordSlot r.bytes = true
      ∧ (s.store.profile.lookup n = some (.whole r) → s.store.recordSlot n = some r.bytes)
      ∧ (s.store.profile.lookup n = none → s.store.recordSlot n = some (List.replicate 32 0xFF#8)))

/-- ACK_PROFILE: below the cursor OK with nothing moved, up to the readable limit the cursor moves past it and the skip count
clears, at or above the limit BAD_ARGUMENT. -/
def Obligations.AckProfileMovesCursor : Prop :=
  ∀ (s : State) (p : PortId) (tag : Byte) (payload : List Byte), Admitted s p 0x41 payload → payload.length = 4 →
    let last := ofBe payload
    let limit := match s.ipu.queue with | [] => s.ipu.nextNumber | r :: _ => r.number
    let reader := if p = .slk then s.ipu.site else s.ipu.utility
    let moved : Reader := { reader with cursor := last + 1, skip := 0 }
    (last < reader.cursor → exec (.ackProfile p tag payload) s = .next (answered s p 0x41 tag .ok []))
    ∧ (reader.cursor ≤ last → last < limit →
      exec (.ackProfile p tag payload) s = .next
        (answered
          { s with ipu := if p = .slk then { s.ipu with site := moved } else { s.ipu with utility := moved } }
          p 0x41 tag .ok []))
    ∧ (reader.cursor ≤ last → limit ≤ last →
      exec (.ackProfile p tag payload) s = .next (answered s p 0x41 tag .badArgument []))

/-- The interval length: a write judged when taken and again when DSC completes it, and the write that puts the old
length back. That BUSY comes before BAD_ARGUMENT, and the item 0xFF of MISALIGNED_SWITCH, are the model's choice (log
30). -/
def Obligations.IntervalLengthWrites : Prop :=
  ∀ (s : State) (p : PortId) (tag v : Byte),
    let minutes := v.toNat
    let allowed := minutes = 5 ∨ minutes = 10 ∨ minutes = 15 ∨ minutes = 30 ∨ minutes = 60
    let misaligned := ∃ m ∈ s.tcu.switchMinutes, m % minutes ≠ 0
    (Admitted s p 0x11 [3, v] →
      (s.ipu.underWrite ≠ none →
        exec (.writeConfigIntervalLength p tag [v]) s = .next (answered s p 0x11 tag .busy []))
      ∧ (s.ipu.underWrite = none → ¬ allowed →
        exec (.writeConfigIntervalLength p tag [v]) s = .next (answered s p 0x11 tag .badArgument []))
      ∧ (s.ipu.underWrite = none → allowed → misaligned →
        exec (.writeConfigIntervalLength p tag [v]) s = .next
          (answered s p 0x11 tag .validationFailed [5, 0xFF]))
      ∧ (s.ipu.underWrite = none → allowed → ¬ misaligned →
        exec (.writeConfigIntervalLength p tag [v]) s = .next
          (asked { waiting s p 0x11 tag with ipu := { s.ipu with underWrite := some minutes } }
            (.lengthWrite minutes s.dsc.held.length (nextOrigin s p)) [] false)))
    ∧ (∀ o before rs fs rest,
      let w := withStoreMail s rest
      (Delivers s .ipu ⟨.lengthWrite minutes before o, .completed, rs, fs⟩ rest →
        (¬ misaligned →
          exec .intervalLengthWriteCompletion s = .next
            (concluded
              { w with ipu := { s.ipu with
                underWrite := none, pendingLength := if minutes = s.ipu.length then none else some minutes } } o .ok []))
        ∧ (misaligned →
          exec .intervalLengthWriteCompletion s = .next (asked w (.lengthRestore before o) [] false)))
      ∧ (Delivers s .ipu ⟨.lengthWrite minutes before o, .refused, rs, fs⟩ rest →
        exec .intervalLengthWriteCompletion s = .next
          (concluded { w with ipu := { s.ipu with underWrite := none } } o .storeFault []))
      ∧ (Delivers s .ipu ⟨.lengthRestore before o, .completed, rs, fs⟩ rest →
        exec .intervalLengthRestoreCompletion s = .next
          (concluded { w with ipu := { s.ipu with underWrite := none } } o .validationFailed [5, 0xFF]))
      ∧ (Delivers s .ipu ⟨.lengthRestore before o, .refused, rs, fs⟩ rest →
        exec .intervalLengthRestoreCompletion s = .next
          (concluded { w with ipu := { s.ipu with underWrite := none } } o .storeFault [])))

/-! ## BFU -/

/-- FREEZE: in IDLE a REQUESTED freeze is taken and answered; in CAPTURED it is refused; with the last number given too. That
FREEZE_IN_PROGRESS comes before BAD_ARGUMENT is the model's choice (log 31). -/
def Obligations.FreezeRequestJudged : Prop :=
  ∀ (s : State) (p : PortId) (tag : Byte), Admitted s p 0x50 [] →
    (∀ f, s.bfu.captured = some f →
      exec (.freeze p tag []) s = .next (answered s p 0x50 tag .freezeInProgress []))
    ∧ (s.bfu.captured = none → s.bfu.counter = 4294967295 →
      exec (.freeze p tag []) s = .next (answered s p 0x50 tag .badArgument []))
    ∧ (s.bfu.captured = none → s.bfu.counter ≠ 4294967295 →
      exec (.freeze p tag []) s = .next
        (answered (freezeTaken s .requested none) p 0x50 tag .ok
          (be 4 (s.bfu.counter + 1) ++ be 4 s.cck.time ++ be 1 (if s.cck.valid then 0 else 1))))

/-- BFU takes its due event: the latest billing instant at or before the present time is claimed when it is later than
the last date, and its freeze taken in IDLE and deferred in CAPTURED; then the slot is armed, and an instant already passed
gives the next due event at once, ahead of a change notice where one waits and had been reached before it (log 17). That no freeze is taken under an UNSET
clock is the model's reading (log 30). -/
def Obligations.BillingDueClaimsInstant : Prop :=
  ∀ (s : State) (d : Due) (rest : List ClockMail),
    s.ssv.supply = .mains → s.mail.clockBfu = .due d :: rest → s.bfu.counter ≠ 4294967295 →
    let w : State := { s with mail := { s.mail with clockBfu := rest } }
    let armed (last : Option Date) : Option Nat := { s.bfu with lastDate := last }.dueTime d.present true
    (s.cck.valid = false → exec .bfuDueEvent s = .next (armedBfu w none))
    ∧ (∀ b, s.cck.valid = true →
      latestBillingDate s.bfu.billingDay d.present = some b → b.laterThan s.bfu.lastDate = true →
      let c : State := { w with bfu := { s.bfu with lastDate := some b } }
      (s.bfu.captured = none →
        exec .bfuDueEvent s = .next (rearmedInTurn (freezeTaken c .scheduled (some b)) (armed (some b)) .byAdvance))
      ∧ (∀ f, s.bfu.captured = some f →
        exec .bfuDueEvent s = .next
          (rearmedInTurn { c with bfu := { c.bfu with deferred := true } } (armed (some b)) .byAdvance)))
    ∧ (s.cck.valid = true →
      (∀ b, latestBillingDate s.bfu.billingDay d.present = some b → b.laterThan s.bfu.lastDate = false) →
      exec .bfuDueEvent s = .next (rearmedInTurn w (armed s.bfu.lastDate) .byAdvance))

/-- BFU takes a change notice, and a billing-day write's completion: the slot armed under the present values; a date that
passed before the write is passed over. A write of the value already held changes nothing but the slot. An armed instant
already passed, as after a forward jump or a SET_TIME on an UNSET clock, gives its due event at once. Where the notice of a
later change waits, BFU's slot is tested at the notice of the first against the time reached before the later change, and the
completion leaves the test to the notice (log 17). -/
def Obligations.BillingDayRearms : Prop :=
  ∀ s : State, s.ssv.supply = .mains →
    (∀ n rest, s.mail.clockBfu = .notice n :: rest →
      let t := s.bfu.dueTime n.newTime n.newValid
      exec .bfuChangeNotice s = .next (rearmedInTurn { s with mail := { s.mail with clockBfu := rest } } t .byChange))
    ∧ (∀ v o rs fs rest,
      let w := withStoreMail s rest
      let passed := (latestBillingDate v s.cck.time).filter fun b => s.cck.valid && b.laterThan s.bfu.lastDate
      let b : Bfu :=
        if v = s.bfu.billingDay then s.bfu
        else { s.bfu with billingDay := v, lastDate := if passed.isSome then passed else s.bfu.lastDate }
      let t := b.dueTime s.cck.time s.cck.valid
      (Delivers s .bfu ⟨.config (.billingDay v) o, .completed, rs, fs⟩ rest →
        exec .billingDayWriteCompletion s = .next (concluded (rearmedBfu { w with bfu := b } t .byAdvance) o .ok []))
      ∧ (Delivers s .bfu ⟨.config (.billingDay v) o, .refused, rs, fs⟩ rest →
        exec .billingDayWriteCompletion s = .next (concluded w o .storeFault [])))

/-- BFU arms the first billing instant later than 00:00:00 of its last scheduled freeze date, or without one later than the
present time; nothing with the billing day 0 or under an UNSET clock. The billing instant is 00:00:00 of the first date later
than the one given whose day is the billing day, and the latest one at a time is that of the last such date not later than its
date; the date of a time of the clock's range is a date of the calendar, whose 00:00:00 is the midnight at or before it. -/
def Obligations.DatesAndBillingInstants : Prop :=
  (∀ (day : Nat) (d : Date), 1 ≤ day → day ≤ 28 → 1 ≤ d.month → d.month ≤ 12 → 1 ≤ d.day → d.day ≤ 31 →
      let n := nextBillingDate day d
      n.day = day ∧ 1 ≤ n.month ∧ n.month ≤ 12 ∧ d.before n = true
      ∧ ∀ e : Date, e.day = day → 1 ≤ e.month → e.month ≤ 12 → d.before e = true → e.before n = false)
  ∧ (∀ (b : Bfu) (t : Nat),
      b.dueTime t false = none
      ∧ (b.billingDay = 0 → b.dueTime t true = none)
      ∧ (∀ d, b.billingDay ≠ 0 → b.lastDate = some d →
          b.dueTime t true = some (midnightOf (nextBillingDate b.billingDay d)))
      ∧ (b.billingDay ≠ 0 → b.lastDate = none →
          b.dueTime t true = some (midnightOf (nextBillingDate b.billingDay (dateOf t)))))
  ∧ (∀ (day t : Nat), 1 ≤ day → day ≤ 28 → t ≤ 4294967295 →
      let past (e : Date) : Prop := e.day = day ∧ 2000 ≤ e.year ∧ 1 ≤ e.month ∧ e.month ≤ 12 ∧ (dateOf t).before e = false
      (∀ d, latestBillingDate day t = some d → past d ∧ ∀ e, past e → d.before e = false)
      ∧ (latestBillingDate day t = none → ∀ e, ¬ past e))
  ∧ (∀ t : Nat, t ≤ 4294967295 →
      let d := dateOf t
      2000 ≤ d.year ∧ 1 ≤ d.month ∧ d.month ≤ 12 ∧ 1 ≤ d.day ∧ d.day ≤ monthDays d.year d.month
      ∧ midnightOf d = t / 86400 * 86400)

/-- BFU takes its set's completion: the set becomes history index 0, the write position moves on, FREEZE_DONE is raised,
a deferred freeze is taken and an image wanted; in a restore's write step there is neither FREEZE_DONE nor a freeze. It
takes its set's refusal: the set stays captured and the write position moves on. The erase-ahead after a last slot, and
the end of the write step, are the model's choice where the set is refused (log 20); so is that a deferred freeze is dropped
with its flag when the last number has been given (log 30), and that one is taken under an UNSET clock too (log 31). -/
def Obligations.FrozenSetWriteOutcomes : Prop :=
  (∀ (s : State) (f : FrozenSet) (rest : List StoreMail) (rs : List IntervalRecord) (fs : Option FrozenSet),
      Delivers s .bfu ⟨.frozenWrite, .completed, rs, fs⟩ rest → s.bfu.captured = some f →
      let pos := (s.bfu.writePos + 1) % 32
      let t : State :=
        { withStoreMail s rest with
          bfu := { s.bfu with
            captured := none, handed := false, writePos := pos, history := ⟨f.number, s.bfu.writePos, false⟩ :: s.bfu.history } }
      let erasing : State := { t with bfu := { t.bfu with erase := .requested } }
      let done (x : State) : State := { x with mail := { x.mail with ulk := x.mail.ulk ++ [⟨.freezeDone, true⟩] } }
      (s.ssv.writeStep = false →
        let u := done (if pos % 16 = 0 then asked erasing (.frozenErase (5 + pos / 16)) [.erase (5 + pos / 16)] true else t)
        exec .frozenSetWriteCompletion s = .next
          (if s.bfu.deferred ∧ s.bfu.counter ≠ 4294967295 then
            (freezeTaken { u with bfu := { u.bfu with deferred := false } } .scheduled s.bfu.lastDate).wantImage
          else State.wantImage { u with bfu := { u.bfu with deferred := false } }))
      ∧ (s.ssv.writeStep = true →
        let u := if pos % 16 = 0 then erasing else t
        exec .frozenSetWriteCompletion s = .next (State.wantImage { u with ssv := { u.ssv with writeStep := false } })))
  ∧ (∀ (s : State) (rest : List StoreMail) (rs : List IntervalRecord) (fs : Option FrozenSet),
      Delivers s .bfu ⟨.frozenWrite, .refused, rs, fs⟩ rest →
      let pos := (s.bfu.writePos + 1) % 32
      let t : State := { withStoreMail s rest with bfu := { s.bfu with handed := false, writePos := pos } }
      let erasing : State := { t with bfu := { t.bfu with erase := .requested } }
      let u :=
        if pos % 16 ≠ 0 then t
        else if s.ssv.writeStep then erasing
        else asked erasing (.frozenErase (5 + pos / 16)) [.erase (5 + pos / 16)] true
      exec .frozenSetWriteRefusal s = .next { u with ssv := { u.ssv with writeStep := false } })

/-- The erase-ahead of the frozen-set region: the sector's sets leave the history at the grant, the set that waits is handed
over at the completion, and a refusal leaves the erase state as it stands and ends the restore's write step, where one is under
way. That an erase refused after its grant stays GRANTED is the model's choice (log 31), and so is the end of the write step
(log 20). -/
def Obligations.EraseAheadAtHistory : Prop :=
  ∀ (s : State) (sector : Nat) (rest : List StoreMail) (rs : List IntervalRecord) (fs : Option FrozenSet),
    let w := withStoreMail s rest
    (Delivers s .bfu ⟨.frozenErase sector, .granted, rs, fs⟩ rest →
      exec .frozenSetEraseGrant s = .next
        { w with bfu := { s.bfu with
          erase := .granted, history := s.bfu.history.filter fun e => 5 + e.pos / 16 != sector } })
    ∧ (Delivers s .bfu ⟨.frozenErase sector, .completed, rs, fs⟩ rest →
      exec .frozenSetEraseOutcome s = .next (handSet { w with bfu := { s.bfu with erase := .idle } }))
    ∧ (Delivers s .bfu ⟨.frozenErase sector, .refused, rs, fs⟩ rest →
      exec .frozenSetEraseOutcome s = .next { w with ssv := { s.ssv with writeStep := false } })

/-- READ_FROZEN: BAD_ARGUMENT past index 12, absent where the index holds no set or a failed one, else a read asked of DSC,
whose completion answers bytes 0 to 197 of the set's page, or marks it failed, or absent once it has left the view. That the
bytes of a page between the check and the marker stay erased is the model's choice (log 9). -/
def Obligations.ReadFrozenServesHistory : Prop :=
  ∀ s : State,
    let tail := be 4 s.bfu.counter ++ be 1 (if s.bfu.captured.isSome then 1 else 0)
    (∀ p tag (i : Byte), Admitted s p 0x51 [i] →
      (12 < i.toNat → exec (.readFrozen p tag [i]) s = .next (answered s p 0x51 tag .badArgument []))
      ∧ (i.toNat ≤ 12 → s.bfu.history[i.toNat]? = none →
        exec (.readFrozen p tag [i]) s = .next (answered s p 0x51 tag .ok (be 1 0 ++ tail)))
      ∧ (∀ e, i.toNat ≤ 12 → s.bfu.history[i.toNat]? = some e → e.failed = true →
        exec (.readFrozen p tag [i]) s = .next (answered s p 0x51 tag .ok (be 1 0 ++ tail)))
      ∧ (∀ e, i.toNat ≤ 12 → s.bfu.history[i.toNat]? = some e → e.failed = false →
        exec (.readFrozen p tag [i]) s = .next
          (placed (waiting s p 0x51 tag) (.frozenRead e.number (nextOrigin s p)) [.readFrozen e.pos] true)))
    ∧ (∀ number o rs fs rest, Delivers s .bfu ⟨.frozenRead number o, .completed, rs, fs⟩ rest →
      let w := withStoreMail s rest
      let held := ∃ e ∈ s.bfu.history, e.number = number
      (¬ held → exec .frozenReadCompletion s = .next (concluded w o .ok (be 1 0 ++ tail)))
      ∧ (∀ f, held → fs = some f →
        exec .frozenReadCompletion s = .next (concluded w o .ok (be 1 1 ++ tail ++ f.bytes)))
      ∧ (held → fs = none →
        exec .frozenReadCompletion s = .next
          (concluded
            { w with bfu := { s.bfu with
              history := s.bfu.history.map fun e => if e.number = number then { e with failed := true } else e } }
            o .ok (be 1 0 ++ tail))))
    ∧ (∀ (f : FrozenSet) (n : Nat),
      let regs := f.regs.imp.toList ++ f.regs.exp.toList ++ [f.regs.totalImp, f.regs.totalExp, f.regs.gen]
      let entries := f.demands.imp.toList ++ [f.demands.exp]
      let date :=
        match f.billingDate with
        | some d => be 2 d.year ++ be 1 d.month ++ be 1 d.day
        | none => [0, 0, 0, 0]
      let bits :=
        (if f.timeInvalid then 1 else 0) + (if f.billingDate = none then 0 else 2)
          + (if f.calendarId = none then 0 else 4)
      let fields :=
        be 4 f.number ++ be 4 f.time ++ be 1 f.gen ++ be 1 (if f.cause = .scheduled then 0 else 1) ++ be 1 bits ++ [0]
          ++ date ++ be 2 (f.calendarId.getD 0) ++ [0, 0] ++ regs.flatMap (be 8)
          ++ entries.flatMap fun d => be 4 d.watts ++ be 4 (d.endTime.getD 0)
      f.bytes = fields ++ be 2 (crc16 fields).toNat
      ∧ f.page = f.bytes ++ List.replicate 42 0xFF#8 ++ List.replicate 16 0x5A#8
      ∧ f.page.length = 256 ∧ f.page.take 198 = f.bytes ∧ validFrozenPage f.page = true
      ∧ (s.store.frozen.lookup n = some (.whole f) → s.store.frozenPage n = some f.page)
      ∧ (s.store.frozen.lookup n = none → s.store.frozenPage n = some (List.replicate 256 0xFF#8)))

/-! ## ECU -/

/-- The recomputation: the governing directive, the effective limit, DIRECTIVE_CHANGE, the Setpoint Notice and the trip of a
lost measurement; what a trip and a change of interlock do. Under a VALID clock a directive governs exactly when an entry is
ACTIVE, under an UNSET clock exactly when the list holds one. ECU arms the earliest time that applies. -/
def Obligations.EffectiveLimitRecomputed : Prop :=
  (∀ (l : List Directive) (d : Directive), governingOf l false = some d →
      ∃ i, l[i]? = some d ∧ (∀ x ∈ l, d.limit ≤ x.limit) ∧ ∀ (j : Nat) (x : Directive), j < i → l[j]? = some x → d.limit < x.limit)
  ∧ (∀ (l : List Directive) (d : Directive), governingOf l true = some d →
      ∃ i, l[i]? = some d ∧ d.active = true ∧ ∀ (j : Nat) (x : Directive), j < i → l[j]? = some x → x.active = false)
  ∧ (∀ l : List Directive,
      (governingOf l true = none ↔ ∀ d ∈ l, d.active = false) ∧ (governingOf l false = none ↔ l = []))
  ∧ (∀ (e : Ecu) (valid : Bool),
      let applies (t : Nat) : Prop :=
        (valid = true ∧ ∃ d ∈ e.list, (d.active = false ∧ d.start = t) ∨ d.stop = some t)
        ∨ (e.handshake = .notified ∧ e.deadline = some t)
        ∨ (e.interlock = .openWait ∧ e.openEnd = some t)
      (∀ t, e.dueTime valid = some t ↔ applies t ∧ ∀ y, applies y → t ≤ y)
      ∧ (e.dueTime valid = none ↔ ∀ t, ¬ applies t))
  ∧ (∀ (s : State) (now : Nat) (valid : Bool),
      let g := governingOf s.ecu.list valid
      let eff := (g.map fun d => min s.ecu.config.staticLimit d.limit).getD s.ecu.config.staticLimit
      let gov := g.map fun d => (d.id, d.seq)
      let e : Ecu := { s.ecu with governing := gov, effective := eff }
      let issued : Ecu :=
        { e with
          notice := (e.notice + 1) % 65536
          noticeLimit := eff
          handshake := if e.handshake = .overdue then .overdue else .notified
          deadline :=
            match e.handshake with
            | .settled => some (now + e.config.ackTime)
            | .notified => if eff < e.noticeLimit then earlier e.deadline (some (now + e.config.ackTime)) else e.deadline
            | .overdue => none }
      let t : State :=
        { s with
          ecu := if eff = s.ecu.effective then e else issued
          mail := { s.mail with
            ulk := s.mail.ulk ++ (if gov = s.ecu.governing then [] else [⟨.directiveChange, true⟩])
            slk := s.mail.slk ++ (if eff = s.ecu.effective then [] else [⟨.setpointNotice, true⟩]) } }
      let trips := s.ecu.view = .lost ∧ s.ecu.interlock = .closed ∧ eff < s.ecu.config.staticLimit
      (¬ trips → s.recompute now valid = t) ∧ (trips → s.recompute now valid = t.trip now .measurementLost))
  ∧ (∀ (s : State) (now : Nat) (c : Cause),
      s.trip now c = State.wantImage
        { s with
          ecu := { s.ecu with
            interlock := .openWait, cause := c, openEnd := some (now + s.ecu.config.minOpen), excursion := 0 }
          exportPermit := false
          mail := { s.mail with
            ipuInterlock := s.mail.ipuInterlock ++ [false]
            ulk := s.mail.ulk ++ [⟨.interlockOpen, true⟩]
            slk := s.mail.slk ++ [⟨.interlockOpen, true⟩] } })
  ∧ (∀ (s : State) (i : Interlock),
      s.setInterlock i = State.wantImage
        { s with
          ecu := { s.ecu with interlock := i }
          exportPermit := decide (i = .closed ∧ s.ssv.supply = .mains)
          mail := { s.mail with ipuInterlock := s.mail.ipuInterlock ++ [decide (i = .closed)] } })

/-- POST_DIRECTIVE and CANCEL_DIRECTIVE: refused, or the list changed as asked with the limit computed again, the slot armed,
and an image wanted; the answer to a post names what it removed. That the renumbering after the last post sequence follows the
recomputation is the model's choice (log 31), and so are that the end bytes behind a presence byte 0x00 are ignored (log 30)
and that CCK's validity and time count before ECU has taken the notice of its change (log 17). -/
def Obligations.DirectivesPostedAndCancelled : Prop :=
  ∀ (s : State) (p : PortId) (tag : Byte) (payload : List Byte),
    let now := s.cck.time
    let valid := s.cck.valid
    let l := s.ecu.list
    (∀ f, Admitted s p 0x60 payload → readPost payload = some f → ListOrdered l → l.length ≤ 8 →
      (∀ x ∈ l, x.seq < s.ecu.nextSeq) →
      let bad := 7 < f.priority ∨ 100000 < f.limit ∨ 1 < f.presence
        ∨ (f.presence = 1 ∧ (f.stop ≤ f.start ∨ (valid = true ∧ f.stop ≤ now)))
      let active := valid && decide (f.start ≤ now)
      let d : Directive :=
        ⟨f.id, f.limit, f.start, if f.presence = 1 then some f.stop else none, f.priority, s.ecu.nextSeq, active⟩
      let after (room : List Directive) : State :=
        (State.wantImage { s with ecu := { s.ecu with list := insertDirective d room, nextSeq := s.ecu.nextSeq + 1 } }).recompute
          now valid
      let accepted (room : List Directive) (removed : List Byte) : Prop :=
        (s.ecu.nextSeq < 4294967295 →
          exec (.postDirective p tag payload) s = .next
            (answered ((after room).armEcu valid .byAdvance) p 0x60 tag .ok
              (be 1 (if active then 1 else 0) ++ be 4 s.ecu.nextSeq ++ removed)))
        ∧ (s.ecu.nextSeq = 4294967295 →
          exec (.postDirective p tag payload) s = .next
            (answered (State.armEcu { after room with ecu := (after room).ecu.renumber } valid .byAdvance) p 0x60 tag .ok
              (be 1 (if active then 1 else 0) ++ be 4 (room.length + 1) ++ removed)))
      let known := ∃ x ∈ l, x.id = f.id
      (bad → exec (.postDirective p tag payload) s = .next (answered s p 0x60 tag .badArgument []))
      ∧ (¬ bad → known → accepted (l.filter fun x => x.id != f.id) (be 1 1 ++ be 2 f.id ++ be 1 0))
      ∧ (¬ bad → ¬ known → l.length < 8 → accepted l (be 1 0 ++ be 2 0 ++ be 1 0))
      ∧ (∀ v, ¬ bad → ¬ known → l.length = 8 → IsLowest l v → f.priority < v.priority →
          accepted (l.erase v) (be 1 1 ++ be 2 v.id ++ be 1 1))
      ∧ (∀ v, ¬ bad → ¬ known → l.length = 8 → IsLowest l v → v.priority ≤ f.priority →
          exec (.postDirective p tag payload) s = .next (answered s p 0x60 tag .listFull [])))
    ∧ (Admitted s p 0x61 payload → payload.length = 2 →
      let id := ofBe payload
      ((∃ x ∈ l, x.id = id) →
        exec (.cancelDirective p tag payload) s = .next
          (answered
            (((State.wantImage { s with ecu := { s.ecu with list := l.filter fun x => x.id != id } }).recompute now
              valid).armEcu valid .byAdvance) p 0x61 tag .ok []))
      ∧ ((∀ x ∈ l, x.id ≠ id) →
        exec (.cancelDirective p tag payload) s = .next (answered s p 0x61 tag .unknownId [])))
    ∧ (∀ d, ListOrdered l → ∃ pre post, l = pre ++ post ∧ insertDirective d l = pre ++ d :: post
        ∧ (∀ x ∈ pre, x.priority < d.priority) ∧ ∀ x ∈ post, d.priority ≤ x.priority)
    ∧ (∀ e : Ecu,
        let rank (n : Nat) : Nat := (e.list.countP fun x => decide (x.seq < n)) + 1
        (e.nextSeq ≤ 4294967295 → e.renumber = e)
        ∧ (4294967295 < e.nextSeq →
          e.renumber =
            { e with
              list := e.list.map fun d => { d with seq := rank d.seq }
              governing := e.governing.map fun g => (g.1, rank g.2)
              nextSeq := e.list.length + 1 }))

/-- ECU takes a due event: the deadline, the open time, the list, the limit, the slot; and a change notice: the elapsed times
carried across, the list when the clock becomes VALID, the limit, the slot. That a time set between CCK's change and this
notice is carried too is the model's choice, and so is that a due event is taken under CCK's validity, whose change may still
be on its way to ECU, and that a deadline or an open-time end which a change notice sets counts from its new time (log 17). -/
def Obligations.ExportClockEventsTaken : Prop :=
  ∀ s : State, s.ssv.supply = .mains →
    (∀ d rest, s.mail.clockEcu = .due d :: rest →
      let p := d.present
      let late := s.ecu.handshake = .notified ∧ s.ecu.deadline.any (fun x => x ≤ p) = true
      let a : Ecu := if late then { s.ecu with handshake := .overdue, deadline := none } else s.ecu
      let w : State := { s with ecu := a, mail := { s.mail with clockEcu := rest } }
      let b : State :=
        if s.ecu.interlock = .openWait ∧ s.ecu.openEnd.any (fun x => x ≤ p) = true then
          State.setInterlock { w with ecu := { a with openEnd := none } } .openReady
        else w
      let c := if s.cck.valid then withList b (broughtTo s.ecu.list p) else b
      exec .ecuDueEvent s = .next ((c.recompute p s.cck.valid).armEcuInTurn s.cck.valid .byAdvance))
    ∧ (∀ n rest, s.mail.clockEcu = .notice n :: rest →
      let carry (x : Nat) : Nat := n.newTime + (x - n.oldTime)
      let w : State :=
        { s with
          ecu := { s.ecu with deadline := s.ecu.deadline.map carry, openEnd := s.ecu.openEnd.map carry }
          mail := { s.mail with clockEcu := rest } }
      let c :=
        if n.oldValid = false ∧ n.newValid = true then withList w (broughtTo s.ecu.list n.newTime) else w
      exec .ecuChangeNotice s = .next ((c.recompute n.newTime n.newValid).armEcuInTurn n.newValid .byChange))

/-- ECU takes an epoch: judged while CLOSED against the enforced limit plus the tolerance, exactly, with the excursion count
and the trips; and a report of MFP's state, with the trip of a lost measurement. -/
def Obligations.ComplianceJudged : Prop :=
  ∀ s : State, s.ssv.supply = .mains →
    (∀ inc rest, s.mail.ecuMfp = .epoch inc :: rest →
      let w : State := { s with mail := { s.mail with ecuMfp := rest } }
      let enforced := if s.ecu.handshake = .notified then max s.ecu.effective s.ecu.settled else s.ecu.effective
      let exceeds := netOf inc < 0 ∧ (enforced + s.ecu.config.tolerance) * 10 < (netOf inc).natAbs * 36
      let judged := s.ecu.interlock = .closed ∧ inc.fault = false
      (¬ judged → exec .ecuEpochIncrement s = .next w)
      ∧ (judged → ¬ exceeds → exec .ecuEpochIncrement s = .next { w with ecu := { s.ecu with excursion := 0 } })
      ∧ (judged → exceeds → s.ecu.handshake = .overdue →
          exec .ecuEpochIncrement s = .next ((w.trip s.cck.time .overdueExcess).armEcu s.cck.valid .byAdvance))
      ∧ (judged → exceeds → s.ecu.handshake ≠ .overdue → s.ecu.config.grace ≤ s.ecu.excursion + 1 →
          exec .ecuEpochIncrement s = .next ((w.trip s.cck.time .overLimit).armEcu s.cck.valid .byAdvance))
      ∧ (judged → exceeds → s.ecu.handshake ≠ .overdue → s.ecu.excursion + 1 < s.ecu.config.grace →
          exec .ecuEpochIncrement s = .next { w with ecu := { s.ecu with excursion := s.ecu.excursion + 1 } }))
    ∧ (∀ st rest, s.mail.ecuMfp = .port st :: rest →
      let w : State := { s with ecu := { s.ecu with view := st }, mail := { s.mail with ecuMfp := rest } }
      let trips := st = .lost ∧ s.ecu.interlock = .closed ∧ s.ecu.effective < s.ecu.config.staticLimit
      (¬ trips → exec .ecuMfpStateReport s = .next w)
      ∧ (trips →
          exec .ecuMfpStateReport s = .next ((w.trip s.cck.time .measurementLost).armEcu s.cck.valid .byAdvance)))

/-- ACK_SETPOINT, RECLOSE_REQUEST and UTILITY_HOLD in each state they are judged in. That TOO_EARLY sends the seconds remaining
modulo 65,536 is the model's choice (log 32), and so is that a hold released before ECU has taken the notice of a change of
time compares the open-time end with CCK's time (log 17). -/
def Obligations.HandshakeAndInterlockRequests : Prop :=
  ∀ (s : State) (p : PortId) (tag : Byte),
    let now := s.cck.time
    let arm (t : State) : State := t.armEcu s.cck.valid .byAdvance
    (∀ payload, Admitted s p 0x63 payload → payload.length = 2 →
      (s.ecu.handshake = .settled → exec (.ackSetpoint p tag payload) s = .next (answered s p 0x63 tag .ok []))
      ∧ (s.ecu.handshake ≠ .settled → ofBe payload ≠ s.ecu.notice →
        exec (.ackSetpoint p tag payload) s = .next (answered s p 0x63 tag .staleNotice []))
      ∧ (s.ecu.handshake ≠ .settled → ofBe payload = s.ecu.notice →
        exec (.ackSetpoint p tag payload) s = .next
          (answered
            (arm
              { s with
                ecu := { s.ecu with handshake := .settled, settled := s.ecu.effective, deadline := none }
                mail := { s.mail with slk := s.mail.slk ++ [⟨.setpointNotice, false⟩] } }) p 0x63 tag .ok [])))
    ∧ (Admitted s p 0x64 [] →
      let run := exec (.recloseRequest p tag []) s
      let refuse (r : Result) (x : List Byte) : Prop := run = .next (answered s p 0x64 tag r x)
      (s.ecu.interlock = .closed → refuse .ok [])
      ∧ (∀ e, s.ecu.interlock = .openWait → s.ecu.openEnd = some e → refuse .tooEarly (be 2 (e - now)))
      ∧ (s.ecu.interlock = .held → refuse .held [])
      ∧ (s.ecu.interlock = .openReady →
        (s.ecu.handshake ≠ .settled → refuse .notSettled [])
        ∧ (s.ecu.handshake = .settled → s.ecu.view ≠ .locked → refuse .noMeasurement [])
        ∧ (s.ecu.handshake = .settled → s.ecu.view = .locked → s.ecu.effective = 0 → refuse .zeroLimit [])
        ∧ (s.ecu.handshake = .settled → s.ecu.view = .locked → s.ecu.effective ≠ 0 →
          run = .next
            (answered (arm (State.setInterlock { s with ecu := { s.ecu with excursion := 0 } } .closed)) p 0x64 tag .ok
              []))))
    ∧ (Admitted s p 0x62 [1] →
      (s.ecu.hold = true → exec (.utilityHoldOn p tag [1]) s = .next
        (answered s p 0x62 tag .ok (be 1 s.ecu.interlock.code)))
      ∧ (s.ecu.hold = false → exec (.utilityHoldOn p tag [1]) s = .next
        (let openEnd :=
          match s.ecu.interlock with
          | .closed => some (now + s.ecu.config.minOpen)
          | .openWait | .held => s.ecu.openEnd
          | .openReady => none
        let t := State.setInterlock
          { s with ecu := { s.ecu with hold := true, cause := .utilityHold, excursion := 0, openEnd := openEnd } } .held
        answered
          (arm { t with mail := { t.mail with
            ulk := t.mail.ulk ++ [⟨.interlockOpen, true⟩], slk := t.mail.slk ++ [⟨.interlockOpen, true⟩] } })
          p 0x62 tag .ok (be 1 3))))
    ∧ (Admitted s p 0x62 [0] →
      let off : Ecu := { s.ecu with hold := false }
      (s.ecu.hold = false → exec (.utilityHoldOff p tag [0]) s = .next
        (answered s p 0x62 tag .ok (be 1 s.ecu.interlock.code)))
      ∧ (s.ecu.hold = true → (∀ e, s.ecu.openEnd = some e → e ≤ now) → exec (.utilityHoldOff p tag [0]) s = .next
        (answered (arm (State.setInterlock { s with ecu := { off with openEnd := none } } .openReady)) p 0x62 tag .ok
          (be 1 2)))
      ∧ (∀ e, s.ecu.hold = true → s.ecu.openEnd = some e → now < e → exec (.utilityHoldOff p tag [0]) s = .next
        (answered (arm (State.setInterlock { s with ecu := off } .openWait)) p 0x62 tag .ok (be 1 1))))
    ∧ (∀ b : Byte, 1 < b.toNat → Admitted s p 0x62 [b] →
      exec (.utilityHoldOn p tag [b]) s = .next (answered s p 0x62 tag .badArgument [])
      ∧ exec (.utilityHoldOff p tag [b]) s = .next (answered s p 0x62 tag .badArgument []))

/-! ## Ports -/

/-- What a port does with every known request before its owner sees it, when it collects no other frame: checks 1 to 8 in their
order, BAD_ARGUMENT for a length the layout does not allow; and with an unknown code. What it does with the bytes it receives:
those before a marker are ignored, a length above 1,024 ends the collection, a frame whose check is bad is dropped, one that
stops short stays under collection, markers among its bytes, and the request of a good one is taken with its last byte; in
HOLDUP and BACKUP none has an effect. A request's command is its frame's bytes. That a READ_CALENDAR from SL whose role byte is
neither code passes check 4 is the model's choice (log 31), and so are that a command brings its frame whole (log 24) and that
the checks and the owner's taking are one event (log 32). -/
def Obligations.PortChecksInOrder : Prop :=
  (∀ (c : Instr) (f : RequestFrame) (s : State), c.wellFormed = true → frameOf c = some f →
    let x := s.port f.port
    let refuse (r : Result) : Prop := exec c s = .next (refusedAt s f.port f.code f.tag r)
    let idle := x.inProgress = none
    let permitted :=
      match f.port with
      | .ulk => f.code ∉ ([0x63, 0x64] : List Byte)
      | .slk =>
        f.code ∈ ([0x01, 0x02, 0x03, 0x04, 0x05, 0x06, 0x07, 0x20, 0x40, 0x41, 0x63, 0x64, 0x65, 0x66, 0x73] : List Byte)
          ∨ (f.code = 0x30 ∧ f.payload.head? ≠ some 1)
      | .opt =>
        f.code ∈ ([0x01, 0x02, 0x03, 0x04, 0x05, 0x06, 0x07, 0x10, 0x20, 0x30, 0x42, 0x51, 0x65, 0x66, 0x73] : List Byte)
          ∨ (x.coverView = .opened ∧ f.code ∈ ([0x08, 0x11, 0x71] : List Byte))
    let session := (∃ k, s.tcu.slot = .loading k)
    let sessionRow := 0x32 ≤ f.code.toNat ∧ f.code.toNat ≤ 0x36
    let noSession := f.port = .ulk ∧ ¬ session ∧ sessionRow
    let barred := f.port = .ulk ∧ session ∧ ¬ sessionRow ∧ f.code ≠ 0x01 ∧ f.code ≠ 0x02
    let guarded := f.code ∈ ([0x11, 0x71, 0x31, 0x21, 0x70, 0x72, 0x75] : List Byte)
    let level := s.dsc.level
    let levelBars :=
      (f.code = 0x11 ∧ (2 ≤ level ∨ (level = 1 ∧ (f.payload.head? = some 1 ∨ f.payload.head? = some 2))))
      ∨ (f.code = 0x31 ∧ 3 ≤ level)
    (s.ssv.supply = .holdup ∨ s.ssv.supply = .backup → exec c s = .next s)
    ∧ (s.ssv.supply = .start ∨ s.ssv.supply = .mains → x.collecting = [] →
      (¬ idle → refuse .busy)
      ∧ (idle → ¬ permitted → refuse .notPermitted)
      ∧ (idle → permitted → s.ssv.supply = .start → refuse .notReady))
    ∧ (s.ssv.supply = .mains → x.collecting = [] → idle → permitted →
      (barred → refuse .sessionOpen)
      ∧ (noSession → refuse .noSession)
      ∧ (¬ barred → ¬ noSession →
        (guarded → x.writeEnable = false → refuse .writeNotEnabled)
        ∧ ((guarded → x.writeEnable = true) → levelBars →
            exec c s = .next
              (s.setPort f.port { x with
                sent := some ⟨f.code, f.tag, .protectedByLevel, []⟩, writeEnable := false }))
        ∧ ((guarded → x.writeEnable = true) → ¬ levelBars → ¬ LengthAllowed f.code f.payload →
            exec c s = .next (answered s f.port f.code f.tag .badArgument [])))))
  ∧ (∀ (p : PortId) (code tag : Byte) (payload : List Byte) (s : State),
    knownCode code = false → payload.length ≤ 1024 →
    (s.ssv.supply = .holdup ∨ s.ssv.supply = .backup → exec (.unknownRequestCode p code tag payload) s = .next s)
    ∧ (s.ssv.supply = .start ∨ s.ssv.supply = .mains → (s.port p).collecting = [] →
      exec (.unknownRequestCode p code tag payload) s = .next
        (refusedAt s p code tag (if (s.port p).inProgress = none then .badRequest else .busy))))
  ∧ (∀ (p : PortId) (s t : State) (a b : List Byte),
    (exec (.linkFrameDiscarded p a) s = .next t →
      exec (.linkFrameDiscarded p (a ++ b)) s = exec (.linkFrameDiscarded p b) t)
    ∧ (s.ssv.supply = .holdup ∨ s.ssv.supply = .backup → exec (.linkFrameDiscarded p a) s = .next s))
  ∧ (let whole (f : LinkFrame) : List Byte :=
      let body := be 2 f.payload.length ++ [f.code, f.tag] ++ f.payload
      0x7E#8 :: body ++ be 2 (crc16 body).toNat
    (∀ (c : Instr) (f : RequestFrame) (s : State), c.wellFormed = true → frameOf c = some f →
      exec c s = exec (.linkFrameDiscarded f.port (whole ⟨f.code, f.tag, f.payload⟩)) s)
    ∧ (∀ (p : PortId) (code tag : Byte) (payload : List Byte) (s : State),
      knownCode code = false → payload.length ≤ 1024 →
      exec (.unknownRequestCode p code tag payload) s = exec (.linkFrameDiscarded p (whole ⟨code, tag, payload⟩)) s)
    ∧ (∀ (p : PortId) (s : State) (l1 l0 : Byte) (junk rest : List Byte),
      s.ssv.supply = .start ∨ s.ssv.supply = .mains → (s.port p).collecting = [] →
      let start := 0x7E#8 :: l1 :: l0 :: rest
      let len := ofBe [l1, l0]
      let takes (bytes : List Byte) (t : State) : Prop := exec (.linkFrameDiscarded p bytes) s = .next t
      let holding (bytes : List Byte) : State := s.setPort p { s.port p with collecting := bytes }
      ((∀ b ∈ junk, b ≠ 0x7E#8) → takes junk s)
      ∧ takes [0x7E#8] (holding [0x7E#8]) ∧ takes [0x7E#8, l1] (holding [0x7E#8, l1])
      ∧ (1024 < len → takes [0x7E#8, l1, l0] s)
      ∧ (len ≤ 1024 → rest.length < len + 4 → takes start (holding start))
      ∧ (len ≤ 1024 → rest.length = len + 4 → (∀ f, start ≠ whole f) → takes start s)))
  ∧ (∀ (l1 l0 : Byte) (junk rest more : List Byte),
    let whole (f : LinkFrame) : List Byte :=
      let body := be 2 f.payload.length ++ [f.code, f.tag] ++ f.payload
      0x7E#8 :: body ++ be 2 (crc16 body).toNat
    let start := 0x7E#8 :: l1 :: l0 :: rest
    let len := ofBe [l1, l0]
    ((∀ b ∈ junk, b ≠ 0x7E#8) → linkFrames (junk ++ more) = linkFrames more)
    ∧ (∀ f : LinkFrame, f.payload.length ≤ 1024 → linkFrames (whole f ++ more) = f :: linkFrames more)
    ∧ (1024 < len → linkFrames (0x7E#8 :: l1 :: l0 :: more) = linkFrames more)
    ∧ (len ≤ 1024 → rest.length = len + 4 → (∀ f, start ≠ whole f) → linkFrames (start ++ more) = linkFrames more)
    ∧ (len ≤ 1024 → rest.length < len + 4 → linkFrames start = [])
    ∧ linkFrames [0x7E#8, l1] = [] ∧ linkFrames [0x7E#8] = [])

/-- What each port does itself: the attention set, mask and line, the write-enable latch and the snapshot latch, with the bits
of a set, the ports of each member and the lowest-numbered unread part. LATCH_REGISTERS asks NAU, CCK, TCU, BFU and ECU; each
contributes what it holds at its own event, in any order, and with the last the latch is HELD and the answer sent. When the
owners answer is the model's choice (log 8), and so are that a port takes the oldest report of a member (log 6) and that
READ_LATCHED on an EMPTY latch is LATCH_EMPTY whatever part is named (log 32). Each part of a latch is given by its bytes. -/
def Obligations.PortServesOwnRequests : Prop :=
  ∀ (s : State) (p : PortId) (tag : Byte),
    let x := s.port p
    let after (y : Port) (code : Byte) (payload : List Byte) : State :=
      answered (s.setPort p y) p code tag .ok payload
    let part (l : Latch) (n : Nat) : List Byte :=
      let t := l.table
      let eight (r : PerBand Nat) : List Byte := be 8 r.b1 ++ be 8 r.b2 ++ be 8 r.b3 ++ be 8 r.b4 ++ be 8 r.b5 ++ be 8 r.b6
      let entry (d : Demand) : List Byte := be 4 d.watts ++ be 4 (d.endTime.getD 0)
      if n = 1 then
        be 4 l.time ++ be 1 (if l.valid then 0 else 1) ++ be 1 l.gen ++ be 1 l.band ++ be 4 l.freezeCounter
          ++ (match t.calendarId with | none => be 1 0 ++ be 2 0 | some id => be 1 1 ++ be 2 id)
          ++ be 4 l.effective ++ be 4 l.enforced ++ be 2 l.notice ++ be 1 l.handshake.code ++ be 1 l.interlock.code
      else if n = 2 then eight t.regs.imp ++ be 8 t.regs.totalImp ++ be 2 t.res.imp
      else if n = 3 then
        eight t.regs.exp ++ be 8 t.regs.totalExp ++ be 2 t.res.exp ++ be 8 t.regs.gen ++ be 2 t.res.gen
      else
        entry t.demands.imp.b1 ++ entry t.demands.imp.b2 ++ entry t.demands.imp.b3 ++ entry t.demands.imp.b4
          ++ entry t.demands.imp.b5 ++ entry t.demands.imp.b6 ++ entry t.demands.exp
    (∀ set mask : Members, set.unmasked mask = true ↔ ∃ m, set.has m = true ∧ mask.has m = false)
    ∧ (∀ (set : Members) (n k : Nat) (m : Member),
      ([.setpointNotice, .directiveChange, .profileReady, .freezeDone, .tamper, .timeUnset, .interlockOpen, .sessionEnded,
        .storeFault, .measurementLost, .restarted] : List Member)[k]? = some m →
      set.bits < 2048 ∧ set.bits.testBit k = set.has m ∧ (Members.ofBits n).has m = n.testBit k)
    ∧ (let ports (m : Member) : List PortId := ([.ulk, .slk, .opt] : List PortId).filter (belongsTo m)
      ports .setpointNotice = [.slk] ∧ ports .directiveChange = [.ulk] ∧ ports .profileReady = [.ulk, .slk]
      ∧ ports .freezeDone = [.ulk] ∧ ports .tamper = [.ulk, .opt] ∧ ports .timeUnset = [.ulk]
      ∧ ports .interlockOpen = [.ulk, .slk] ∧ ports .sessionEnded = [.ulk] ∧ ports .storeFault = [.ulk, .opt]
      ∧ ports .measurementLost = [.ulk, .slk] ∧ ports .restarted = [.ulk, .slk, .opt])
    ∧ (∀ (u : Unread) (n : Nat),
      let unread (w : Unread) (k : Nat) : Bool :=
        (k == 1 && w.p1) || (k == 2 && w.p2) || (k == 3 && w.p3) || (k == 4 && w.p4)
      ((∃ k, unread u k = true) → unread u u.first = true ∧ ∀ k, k < u.first → unread u k = false)
      ∧ (1 ≤ n → n ≤ 4 → ∀ k, unread (u.read n) k = (unread u k && k != n))
      ∧ (∀ k, k < 4 → u.bits.testBit k = unread u (k + 1)) ∧ u.bits < 16)
    ∧ (Admitted s p 0x02 [] →
      let kept := { x.attention with
        directiveChange := false, profileReady := false, freezeDone := false, interlockOpen := false
        sessionEnded := false, restarted := false }
      exec (.readAttention p tag []) s = .next
        (after { x with attention := kept, line := kept.unmasked x.mask } 0x02
          (be 2 x.attention.bits ++ be 1 (if x.attention.restarted then x.restartKind.code else 0))))
    ∧ (∀ payload, Admitted s p 0x03 payload → payload.length = 2 →
      let m := Members.ofBits (ofBe payload)
      let good := ofBe payload < 2048 ∧ ∀ k, m.has k = true → belongsTo k p = true
      (good → exec (.setAttentionMask p tag payload) s = .next
        (after { x with mask := m, line := x.attention.unmasked m } 0x03 (be 2 m.bits)))
      ∧ (¬ good → exec (.setAttentionMask p tag payload) s = .next (answered s p 0x03 tag .badArgument [])))
    ∧ (∀ m rest, s.ssv.supply = .mains → ∀ present,
      takeFirst (fun r => r.member == m) (s.mail.reports p) = some (⟨m, present⟩, rest) →
      let set := x.attention.put m present
      exec (.attentionReport p m) s = .next
        (State.setPort { s with mail := s.mail.putReports p rest } p
          { x with attention := set, line := set.unmasked x.mask }))
    ∧ (Admitted s p 0x08 [] →
      exec (.enableWrite p tag []) s = .next (after { x with writeEnable := true } 0x08 []))
    ∧ (∀ c rest, s.mail.optCover = c :: rest →
      exec .portCoverReport s = .next
        { s with
          mail := { s.mail with optCover := rest }
          opt := { s.opt with coverView := c, writeEnable := if c = .closed then false else s.opt.writeEnable } })
    ∧ (Admitted s p 0x04 [] →
      (∀ l, x.latch = some l → exec (.latchRegisters p tag []) s = .next (answered s p 0x04 tag .ok (be 1 1)))
      ∧ (x.latch = none → ∃ d : Latch, d.unread = ⟨true, true, true, true⟩
        ∧ exec (.latchRegisters p tag []) s = .next (gathering s p 0x04 tag [.nau, .cck, .tcu, .bfu, .ecu] (.latch d))))
    ∧ (∀ (r : PortRequest) (blocks : List Block) (d : Latch) (b : Block),
      x.inProgress = some r → r.asking = some ⟨blocks, .latch d⟩ →
      let e := s.ecu
      let l : Latch :=
        match b with
        | .nau => { d with table := s.nau.table }
        | .cck => { d with time := s.cck.time, valid := s.cck.valid, gen := s.cck.gen }
        | .tcu => { d with band := s.tcu.band }
        | .bfu => { d with freezeCounter := s.bfu.counter }
        | .ecu =>
          { d with
            effective := e.effective
            enforced := if e.handshake = .notified then max e.effective e.settled else e.effective
            notice := e.notice, handshake := e.handshake, interlock := e.interlock }
        | _ => d
      (b ∉ blocks → s.answerAsk p b = s)
      ∧ (b ∈ blocks → blocks.erase b ≠ [] →
        s.answerAsk p b =
          s.setPort p { x with inProgress := some { r with asking := some ⟨blocks.erase b, .latch l⟩ } })
      ∧ (b ∈ blocks → blocks.erase b = [] →
        s.answerAsk p b = settledAt (s.setPort p { x with latch := some l }) ⟨p, r.serial⟩ r .ok (be 1 0)))
    ∧ (∀ payload, Admitted s p 0x05 payload → payload.length ≤ 1 →
      (x.latch = none → exec (.readLatched p tag payload) s = .next (answered s p 0x05 tag .latchEmpty []))
      ∧ (∀ l b, x.latch = some l → payload = [b] → (b.toNat < 1 ∨ 4 < b.toNat) →
        exec (.readLatched p tag payload) s = .next (answered s p 0x05 tag .badArgument []))
      ∧ (∀ l n, x.latch = some l → 1 ≤ n → n ≤ 4 →
        (payload = [BitVec.ofNat 8 n] ∨ (payload = [] ∧ n = l.unread.first)) →
        let u := l.unread.read n
        exec (.readLatched p tag payload) s = .next
          (after { x with latch := if u = ⟨false, false, false, false⟩ then none else some { l with unread := u } } 0x05
            (be 1 n ++ be 1 u.bits ++ part l n))))
    ∧ (Admitted s p 0x06 [] → exec (.releaseLatch p tag []) s = .next (after { x with latch := none } 0x06 []))

/-- The requests that read the part answer with its values and change nothing but their own port. READ_STATUS, READ_LIVE and
READ_CONFIG ask each of their blocks; each answers with what it holds at its own event, in any order, and with the last the
port sends the parts in one order. READ_EXPORT_STATUS, READ_DIRECTIVES and READ_IDENTITY are answered by their one owner at
once. When the blocks answer, and that the port's own items are those of the last answer's event, is the model's choice (log
8); so are that READ_CONFIG's answer carries no item codes and IPU's thresholds stand after ECU's items (log 30), and that
seconds remaining are sent modulo 65,536 (log 32), and of a boundary beyond 32 bits the low 4 bytes (log 30). Each part is given by its bytes, and each enumerated item is its position
in its list. -/
def Obligations.ReadsAnswerWithoutChange : Prop :=
  ∀ (s : State) (p : PortId) (tag : Byte),
    let reads (c : Instr) (code : Byte) (bytes : List Byte) : Prop :=
      Admitted s p code [] → exec c s = .next (answered s p code tag .ok bytes)
    let flag (b : Bool) : List Byte := be 1 (if b then 1 else 0)
    let opt (k : Nat) (x : Option Nat) : List Byte :=
      match x with
      | none => be 1 0 ++ be k 0
      | some n => be 1 1 ++ be k n
    let bit (place : Nat) (b : Bool) : Nat := if b then 2 ^ place else 0
    let roles (m : SlotMap) : List Byte :=
      be 1 m.s1.code ++ be 1 m.s2.code ++ be 1 m.s3.code ++ be 1 m.s4.code ++ be 1 m.s5.code ++ be 1 m.s6.code
        ++ be 1 m.s7.code
    let e := s.ecu
    let c := e.config
    let x := s.port p
    let waitingId := match s.tcu.slot with | .waiting r => some r.calendar.id | _ => none
    let loading := match s.tcu.slot with | .loading _ => true | _ => false
    let limit := match s.ipu.queue with | [] => s.ipu.nextNumber | r :: _ => r.number
    let oldest := match s.ipu.ring with | [] => limit | y :: _ => y.number
    let storeState :=
      if s.dsc.fault then 3 else if s.dsc.suspended.isSome then 2 else if s.dsc.inFlight.isSome then 1 else 0
    let operation :=
      match s.dsc.inFlight with
      | none => 0
      | some ⟨_, .program _⟩ => 1
      | some ⟨_, .erase _⟩ => 2
      | some ⟨_, .readRecords _⟩ => 3
      | some ⟨_, .readFrozen _⟩ => 3
    let unread :=
      match x.latch with
      | none => 0
      | some l => bit 0 l.unread.p1 + bit 1 l.unread.p2 + bit 2 l.unread.p3 + bit 3 l.unread.p4
    let status (b : Block) : List Byte :=
      match b with
      | .ssv => be 1 s.ssv.supply.code ++ be 1 s.ssv.kind.code ++ be 1 (if s.ssv.cellGood then 0 else 1)
      | .mfp => be 1 s.mfp.port.code
      | .cck => be 4 s.cck.time ++ be 1 (if s.cck.valid then 0 else 1) ++ be 1 s.cck.gen
      | .tcu =>
        be 1 s.tcu.slot.code ++ opt 2 (s.tcu.active.map fun r => r.calendar.id) ++ opt 2 waitingId
          ++ opt 4 s.tcu.boundary ++ be 1 s.tcu.band ++ flag loading
      | .ipu =>
        be 1 s.ipu.length ++ opt 1 s.ipu.pendingLength ++ be 4 s.ipu.nextNumber ++ be 4 oldest
          ++ be 2 s.ipu.ring.length
      | .bfu =>
        flag s.bfu.captured.isSome ++ flag s.bfu.deferred ++ be 4 s.bfu.counter ++ be 1 s.bfu.billingDay
          ++ (match s.bfu.lastDate with
              | none => be 1 0 ++ be 4 0
              | some d => be 1 1 ++ (be 2 d.year ++ be 1 d.month ++ be 1 d.day))
          ++ opt 4 (s.bfu.history.head?.map fun y => y.number)
      | .ecu => be 1 e.handshake.code ++ be 1 e.interlock.code
      | .dsc =>
        be 1 storeState ++ be 1 operation ++ be 1 s.dsc.level ++ flag s.dsc.lock ++ be 1 s.dsc.lifecycle.code
          ++ be 4 s.dsc.nextSeq
      | .cvm => be 1 s.cvm.cover.code ++ flag s.cvm.tamper
      | .nau => []
    let watts (z : Option Int) : List Byte :=
      match z with
      | none => be 1 0 ++ be 4 0
      | some y => be 1 1 ++ be 4 ((y * 36).tdiv 10 % 4294967296).toNat
    let net (l : Live) : Option Int := if l.fault then none else some (l.a.getD 0 + l.b.getD 0 + l.c.getD 0)
    let liveValues : List Byte :=
      match s.mfp.live with
      | none => watts none ++ watts none ++ watts none ++ watts none ++ opt 4 none ++ opt 1 none
      | some l =>
        watts l.a ++ watts l.b ++ watts l.c ++ watts (net l) ++ opt 4 (l.gen.map fun g => g * 36 / 10)
          ++ opt 1 (some (bit 0 l.voltA + bit 1 l.voltB + bit 2 l.voltC + bit 3 l.fault))
    let pendingMap : List Byte :=
      match s.mfp.pendingMap with
      | none => be 1 0 ++ be 7 0
      | some m => be 1 1 ++ roles m
    let live (b : Block) : List Byte :=
      match b with
      | .mfp => be 1 s.mfp.port.code ++ liveValues
      | .ecu => be 4 e.effective ++ be 1 e.interlock.code
      | _ => []
    let config (b : Block) : List Byte :=
      match b with
      | .mfp => roles s.mfp.map ++ pendingMap
      | .nau => be 1 s.nau.mode.code ++ opt 1 (s.nau.pendingMode.map NettingMode.code)
      | .ipu =>
        be 1 s.ipu.length ++ opt 1 s.ipu.pendingLength ++ be 2 s.ipu.utility.threshold ++ be 2 s.ipu.site.threshold
      | .bfu => be 1 s.bfu.billingDay
      | .ecu => be 4 c.staticLimit ++ be 2 c.tolerance ++ be 1 c.grace ++ be 2 c.ackTime ++ be 2 c.minOpen
      | .dsc => be 1 s.dsc.level ++ flag s.dsc.lock ++ be 4 s.dsc.held.seq
      | _ => []
    let part (k : ReadKind) (b : Block) : List Byte :=
      match k with
      | .status => status b
      | .live => live b
      | .config => config b
    let own (k : ReadKind) : List Byte :=
      match k with
      | .status => flag x.writeEnable ++ flag x.latch.isSome ++ be 1 unread
      | _ => []
    let asks (c : Instr) (code : Byte) (k : ReadKind) (blocks : List Block) : Prop :=
      Admitted s p code [] → exec c s = .next (gathering s p code tag blocks (.read k []))
    let statusBlocks : List Block := [.ssv, .mfp, .cck, .tcu, .ipu, .bfu, .ecu, .dsc, .cvm]
    let configBlocks : List Block := [.mfp, .nau, .ipu, .bfu, .ecu, .dsc]
    let gave (f : Block → List Byte) (blocks : List Block) (given : List (Block × List Byte)) : Prop :=
      given.Perm (blocks.map fun b => (b, f b))
    let enforced := if e.handshake = .notified then max e.effective e.settled else e.effective
    let left (t : Option Nat) : Option Nat := t.map fun y => y - s.cck.time
    let exportStatus : List Byte :=
      be 4 c.staticLimit ++ be 4 e.effective ++ be 4 enforced ++ opt 2 (e.governing.map fun g => g.1) ++ be 2 e.notice
        ++ be 4 e.noticeLimit ++ be 1 e.handshake.code
        ++ opt 2 (if e.handshake = .notified then left e.deadline else none) ++ be 4 e.settled ++ be 1 e.excursion
        ++ be 2 c.tolerance ++ be 1 c.grace ++ be 1 e.interlock.code ++ be 1 e.cause.code ++ flag e.hold
        ++ opt 2 (left e.openEnd) ++ be 1 e.view.code
    let entry (d : Directive) : List Byte :=
      be 2 d.id ++ be 4 d.limit ++ be 4 d.start ++ be 4 (d.stop.getD 0) ++ be 1 d.priority ++ be 4 d.seq
        ++ be 1 (bit 0 d.stop.isSome + bit 1 d.active
          + bit 2 (decide ((governingOf e.list s.cck.valid).map (fun g => g.id) = some d.id)))
    asks (.readStatus p tag []) 0x01 .status statusBlocks
    ∧ asks (.readLive p tag []) 0x07 .live [.mfp, .ecu]
    ∧ asks (.readConfig p tag []) 0x10 .config configBlocks
    ∧ (∀ (r : PortRequest) (blocks : List Block) (k : ReadKind) (given : List (Block × List Byte)) (b : Block),
        x.inProgress = some r → r.asking = some ⟨blocks, .read k given⟩ →
        let now := given ++ [(b, part k b)]
        (b ∉ blocks → s.answerAsk p b = s)
        ∧ (b ∈ blocks → blocks.erase b ≠ [] →
          s.answerAsk p b =
            s.setPort p { x with inProgress := some { r with asking := some ⟨blocks.erase b, .read k now⟩ } })
        ∧ (b ∈ blocks → blocks.erase b = [] →
          s.answerAsk p b = settledAt s ⟨p, r.serial⟩ r .ok (k.payload now ++ own k)))
    ∧ (∀ (f : Block → List Byte) (given : List (Block × List Byte)),
        (gave f statusBlocks given → ReadKind.status.payload given =
          f .ssv ++ f .mfp ++ f .cck ++ f .tcu ++ f .ipu ++ f .bfu ++ f .ecu ++ f .dsc ++ f .cvm)
        ∧ (gave f [.mfp, .ecu] given → ReadKind.live.payload given = f .mfp ++ f .ecu)
        ∧ (∀ lengths thresholds, gave f configBlocks given → f .ipu = lengths ++ thresholds → lengths.length = 3 →
          ReadKind.config.payload given =
            f .mfp ++ f .nau ++ lengths ++ f .bfu ++ f .ecu ++ thresholds ++ f .dsc))
    ∧ reads (.readExportStatus p tag []) 0x65 exportStatus
    ∧ reads (.readDirectives p tag []) 0x66 (be 1 e.list.length ++ e.list.flatMap entry)
    ∧ reads (.readIdentity p tag []) 0x73
        ((match s.dsc.identity with
          | some i => be 1 1 ++ be 8 i.serialNumber.toNat ++ be 2 i.revision.toNat
          | none => be 1 0 ++ be 8 0 ++ be 2 0)
          ++ be 1 s.dsc.lifecycle.code ++ be 1 (if s.dsc.lifecycle = .inService then 0x3C else 0xC3))
    ∧ ([.start, .mains, .holdup, .backup] : List Supply).map Supply.code = [0, 1, 2, 3]
    ∧ ([.cold, .imageLost, .supply, .commanded, .resetInput] : List RestartKind).map RestartKind.code = [0, 1, 2, 3, 4]
    ∧ ([.idle, .locked, .lost] : List MfpState).map MfpState.code = [0, 1, 2]
    ∧ ([.unused, .phaseA, .phaseB, .phaseC, .gen] : List Role).map Role.code = [0, 1, 2, 3, 4]
    ∧ ([.summed, .perPhase] : List NettingMode).map NettingMode.code = [0, 1]
    ∧ (∀ (k : Calendar) (r : CalendarRecord),
        ([.empty, .loading k, .waiting r] : List PendingSlot).map PendingSlot.code = [0, 1, 2])
    ∧ ([.settled, .notified, .overdue] : List Handshake).map Handshake.code = [0, 1, 2]
    ∧ ([.closed, .openWait, .openReady, .held] : List Interlock).map Interlock.code = [0, 1, 2, 3]
    ∧ ([.none, .overLimit, .overdueExcess, .measurementLost, .utilityHold] : List Cause).map Cause.code = [0, 1, 2, 3, 4]
    ∧ ([.commissioning, .inService] : List Lifecycle).map Lifecycle.code = [0, 1]
    ∧ ([.closed, .opened] : List Cover).map Cover.code = [0, 1]

/-! ## Configuration -/

/-- WRITE_CONFIG with a known item: BAD_ARGUMENT outside the item's range, else a configuration write asked of DSC at
priority 5 while the port waits. -/
def Obligations.ConfigWritesAsked : Prop :=
  ∀ (s : State) (p : PortId) (tag : Byte) (value : List Byte),
    let bad (c : Instr) : Prop := exec c s = .next (answered s p 0x11 tag .badArgument [])
    let asks (c : Instr) (w : ConfigWrite) : Prop :=
      exec c s = .next (asked (waiting s p 0x11 tag) (.config w (nextOrigin s p)) [] false)
    let ranged (c : Instr) (item : Byte) (bytes lo hi : Nat) (w : Nat → ConfigWrite) : Prop :=
      Admitted s p 0x11 (item :: value) → value.length = bytes →
      (lo ≤ ofBe value ∧ ofBe value ≤ hi → asks c (w (ofBe value))) ∧ (ofBe value < lo ∨ hi < ofBe value → bad c)
    (Admitted s p 0x11 (1 :: value) → value.length = 7 →
      let good :=
        (∀ b ∈ value, b.toNat ≤ 4)
        ∧ ∀ k ∈ [1, 2, 3, 4], (value.filter fun b => b.toNat == k).length ≤ 1
      (∀ m : SlotMap, good → m.toList.map Role.code = value.map BitVec.toNat →
        asks (.writeConfigSlotMap p tag value) (.slotMap m))
      ∧ (¬ good → bad (.writeConfigSlotMap p tag value)))
    ∧ (Admitted s p 0x11 (2 :: value) → value.length = 1 →
      (value = [0] → asks (.writeConfigNettingMode p tag value) (.netting .summed))
      ∧ (value = [1] → asks (.writeConfigNettingMode p tag value) (.netting .perPhase))
      ∧ (1 < ofBe value → bad (.writeConfigNettingMode p tag value)))
    ∧ ranged (.writeConfigBillingDay p tag value) 4 1 0 28 .billingDay
    ∧ ranged (.writeConfigStaticConnectionLimit p tag value) 5 4 0 100000 .staticLimit
    ∧ ranged (.writeConfigExportTolerance p tag value) 6 2 0 5000 .tolerance
    ∧ ranged (.writeConfigGrace p tag value) 7 1 1 120 .grace
    ∧ ranged (.writeConfigAcknowledgementTime p tag value) 8 2 5 600 .ackTime
    ∧ ranged (.writeConfigMinimumOpenTime p tag value) 9 2 30 3600 .minOpen
    ∧ ranged (.writeConfigUtilityThreshold p tag value) 10 2 1 4096 .utilityThreshold
    ∧ ranged (.writeConfigSiteThreshold p tag value) 11 2 1 4096 .siteThreshold
    ∧ (Admitted s p 0x11 value → knownItem value = false → bad (.writeConfigUnknownItem p tag value))

/-- The owner of an item takes its completed configuration write and answers OK, or answers STORE_FAULT to a refused one and
keeps its value. That a static limit counts under CCK's validity and time, whose change may still be on its way to ECU, is the
model's choice (log 17). -/
def Obligations.ConfigWriteOutcomes : Prop :=
  ∀ (s : State) (o : Origin) (rest : List StoreMail) (rs : List IntervalRecord) (fs : Option FrozenSet),
    let w := withStoreMail s rest
    let outcome (c : Instr) (x : ConfigWrite) (t : State) : Prop :=
      (Delivers s x.owner ⟨.config x o, .completed, rs, fs⟩ rest → exec c s = .next (concluded t o .ok []))
      ∧ (Delivers s x.owner ⟨.config x o, .refused, rs, fs⟩ rest → exec c s = .next (concluded w o .storeFault []))
    let ecu (c : EcuConfig) : State := { w with ecu := { s.ecu with config := c } }
    (∀ m, outcome .nettingModeWriteCompletion (.netting m)
      { w with nau := { s.nau with pendingMode := if m = s.nau.mode then none else some m } })
    ∧ (∀ m, outcome .slotMapWriteCompletion (.slotMap m)
      { w with mfp := { s.mfp with pendingMap := if m = s.mfp.map then none else some m, switchDue := false } })
    ∧ (∀ n, outcome .thresholdWriteCompletion (.utilityThreshold n)
      { w with ipu := { s.ipu with utility := { s.ipu.utility with threshold := n } } })
    ∧ (∀ n, outcome .thresholdWriteCompletion (.siteThreshold n)
      { w with ipu := { s.ipu with site := { s.ipu.site with threshold := n } } })
    ∧ (∀ v, outcome .ecuConfigWriteCompletion (.staticLimit v)
      (((ecu { s.ecu.config with staticLimit := v }).recompute s.cck.time s.cck.valid).armEcu s.cck.valid .byAdvance))
    ∧ (∀ v, outcome .ecuConfigWriteCompletion (.tolerance v) (ecu { s.ecu.config with tolerance := v }))
    ∧ (∀ v, outcome .ecuConfigWriteCompletion (.grace v) (ecu { s.ecu.config with grace := v }))
    ∧ (∀ v, outcome .ecuConfigWriteCompletion (.ackTime v) (ecu { s.ecu.config with ackTime := v }))
    ∧ (∀ v, outcome .ecuConfigWriteCompletion (.minOpen v) (ecu { s.ecu.config with minOpen := v }))
    ∧ (∀ level lock, outcome .protectionWriteCompletion (.protection level lock)
      { w with dsc := { s.dsc with level := level, lock := lock } })

/-! ## CVM and what DSC guards -/

/-- The cover, the tamper latch, the protection, the lifecycle. An opening in HOLDUP, START or BACKUP is held for IPU by the
unpowered-opening flag; in BACKUP the ports hold nothing to report to, and without the retention mark the switch is not
sampled. That a cover switch already in its position gives no event is the model's choice (log 30). -/
def Obligations.CoverProtectionAndLifecycle : Prop :=
  ∀ (s : State) (p : PortId) (tag : Byte),
    (s.ssv.supply = .mains → s.coverSwitch = .closed →
      exec .coverOpening s = .next
        { s with
          coverSwitch := .opened
          cvm := { s.cvm with cover := .opened, tamper := true }
          mail := { s.mail with
            ipuTamper := s.mail.ipuTamper + 1, optCover := s.mail.optCover ++ [.opened]
            ulk := s.mail.ulk ++ [⟨.tamper, true⟩], opt := s.mail.opt ++ [⟨.tamper, true⟩] } })
    ∧ (s.ssv.supply = .backup → s.ssv.retention = true → s.coverSwitch = .closed →
      exec .coverOpening s = .next
        { s with coverSwitch := .opened, cvm := { cover := .opened, tamper := true, unpowered := true } })
    ∧ (s.ssv.supply = .holdup ∨ s.ssv.supply = .start → s.coverSwitch = .closed →
      exec .coverOpening s = .next
        { s with
          coverSwitch := .opened
          cvm := { cover := .opened, tamper := true, unpowered := true }
          mail := { s.mail with
            optCover := s.mail.optCover ++ [.opened]
            ulk := s.mail.ulk ++ [⟨.tamper, true⟩], opt := s.mail.opt ++ [⟨.tamper, true⟩] } })
    ∧ (s.ssv.supply ≠ .backup → s.coverSwitch = .opened →
      exec .coverClosing s = .next
        { s with
          coverSwitch := .closed
          cvm := { s.cvm with cover := .closed }
          mail := { s.mail with optCover := s.mail.optCover ++ [.closed] } })
    ∧ (s.ssv.supply = .backup → s.ssv.retention = true → s.coverSwitch = .opened →
      exec .coverClosing s = .next { s with coverSwitch := .closed, cvm := { s.cvm with cover := .closed } })
    ∧ (s.ssv.supply = .backup → s.ssv.retention = false →
      exec .coverOpening s = .next { s with coverSwitch := .opened }
      ∧ exec .coverClosing s = .next { s with coverSwitch := .closed })
    ∧ (s.coverSwitch = .opened → exec .coverOpening s = .next s)
    ∧ (s.coverSwitch = .closed → exec .coverClosing s = .next s)
    ∧ (Admitted s p 0x74 [] →
      (s.cvm.cover = .opened → exec (.clearTamper p tag []) s = .next (answered s p 0x74 tag .coverOpen []))
      ∧ (s.cvm.cover = .closed → exec (.clearTamper p tag []) s = .next
        (answered
          { s with
            cvm := { s.cvm with tamper := false }
            mail := { s.mail with ulk := s.mail.ulk ++ [⟨.tamper, false⟩], opt := s.mail.opt ++ [⟨.tamper, false⟩] } }
          p 0x74 tag .ok [])))
    ∧ (∀ level lock : Byte, Admitted s p 0x71 [level, lock] →
      let bad := 3 < level.toNat ∨ 1 < lock.toNat
      let locked := s.dsc.lock = true ∧ s.cvm.cover = .closed
      (bad → exec (.setProtection p tag [level, lock]) s = .next (answered s p 0x71 tag .badArgument []))
      ∧ (¬ bad → locked → exec (.setProtection p tag [level, lock]) s = .next (answered s p 0x71 tag .locked []))
      ∧ (¬ bad → ¬ locked → exec (.setProtection p tag [level, lock]) s = .next
        (asked (waiting s p 0x71 tag) (.config (.protection level.toNat (lock == 1)) (nextOrigin s p)) [] false)))
    ∧ (Admitted s p 0x72 [] →
      let run := exec (.closeCommissioning p tag []) s
      let phase := ∃ r ∈ s.mfp.map.toList, r = .phaseA ∨ r = .phaseB ∨ r = .phaseC
      (s.dsc.lifecycle = .inService → run = .next (answered s p 0x72 tag .wrongLifecycle []))
      ∧ (s.dsc.lifecycle = .commissioning → s.cck.valid = false →
        run = .next (answered s p 0x72 tag .validationFailed [9, 0xFF]))
      ∧ (s.dsc.lifecycle = .commissioning → s.cck.valid = true → ¬ phase →
        run = .next (answered s p 0x72 tag .validationFailed [10, 0xFF]))
      ∧ (s.dsc.lifecycle = .commissioning → s.cck.valid = true → phase →
        (∀ n, 1 ≤ n → n ≤ 15 → s.store.marks.lookup n = none →
          (∀ k, 1 ≤ k → k < n → s.store.marks.lookup k ≠ none) →
          run = .next
            (asked (waiting s p 0x72 tag) (.lifecycleMark (nextOrigin s p))
              [.program (.lifecycleBody n), .program (.lifecycleMarker n)] true))
        ∧ ((∀ k, 1 ≤ k → k ≤ 15 → s.store.marks.lookup k ≠ none) →
          run = .next (answered s p 0x72 tag .storeFault []))))
    ∧ (∀ o rs fs rest,
      (Delivers s .dsc ⟨.lifecycleMark o, .completed, rs, fs⟩ rest →
        exec .lifecycleMarkCompletion s = .next
          (concluded { withStoreMail s rest with dsc := { s.dsc with lifecycle := .inService } } o .ok []))
      ∧ (Delivers s .dsc ⟨.lifecycleMark o, .refused, rs, fs⟩ rest →
        exec .lifecycleMarkCompletion s = .next (concluded (withStoreMail s rest) o .storeFault [])))

/-! ## DSC -/

/-- DSC's grant: the first request that may have the array runs its next operation, or is built first; what a configuration
write puts into the record held; each unit's part of an image, the last of which gives the image its sequence and starts its
programs; the bytes of the image's slot. What a request for an image does once the last sequence has been given is the model's
choice (log 19), and so are the bytes inside each part (log 9), that IPU's part says whether the last append number has been
given (log 30) and that a request behind an append or an erase-ahead held back in START goes before it (log 31). -/
def Obligations.ArrayGrantedAndImagesBuilt : Prop :=
  (∀ s : State, ¬ ArrayFree s ∨ (∀ q ∈ s.dsc.queue, ¬ Grantable s q) → exec .arrayGrant s = .next s)
  ∧ (∀ (sector seq minutes before number : Nat) (cursor : Bool) (selected : List Nat) (w : ConfigWrite) (o : Origin),
      let at_ (n : Nat) (clients : List Client) : Prop := ∀ c ∈ clients, c.priority = n
      at_ 1 [.holdup] ∧ at_ 2 [.routineImage, .commandedImage o, .imageErase] ∧ at_ 3 [.frozenWrite, .frozenErase sector]
      ∧ at_ 4 [.append, .profileErase sector]
      ∧ at_ 5 [.calendarErase o, .calendarWrite seq o, .calendarMark, .config w o, .lengthWrite minutes before o,
          .lengthRestore before o, .lifecycleMark o]
      ∧ at_ 6 [.profileRead cursor selected o, .frozenRead number o])
  ∧ (∀ (r : StoreRequest) (l : List StoreRequest), l.Pairwise (fun a b => a.priority ≤ b.priority) →
      ∃ pre post, l = pre ++ post ∧ insertRequest r l = pre ++ r :: post
        ∧ (∀ x ∈ pre, x.priority ≤ r.priority) ∧ ∀ x ∈ post, r.priority < x.priority)
  ∧ (∀ (s : State) (r : StoreRequest), ArrayFree s → FirstGrantable s r → DistinctIds s.dsc.queue →
      let d : Dsc := { s.dsc with grant := some ⟨r.id, 0⟩ }
      let with1 (ops : List ArrayOp) (built : Bool) : List StoreRequest :=
        s.dsc.queue.map fun q => if q.id = r.id then { r with ops := ops, built := built } else q
      let image := r.client = .holdup ∨ r.client = .routineImage ∨ ∃ o, r.client = .commandedImage o
      (∀ op more, r.built = true → r.ops = op :: more →
        exec .arrayGrant s = .next (started s d r.id r.client op))
      ∧ (r.built = false → image → s.dsc.seqSpent = false → ¬ (r.client = .holdup ∧ s.dsc.awaitsErase = true) →
        exec .arrayGrant s = .next
          { s with dsc := { d with
            imageWanted := false
            gather := some ⟨r.id, r.client.imageCause, none, none, none, none, none, none, none, none⟩ } })
      ∧ (r.built = false → r.client = .holdup → s.dsc.seqSpent = false → s.dsc.awaitsErase = true →
        let op : ArrayOp := .erase (7 + s.dsc.nextSlot / 4)
        exec .arrayGrant s = .next (started s { d with queue := with1 [op] false } r.id r.client op))
      ∧ (∀ o, r.built = false → r.client = .commandedImage o → s.dsc.seqSpent = true →
        exec .arrayGrant s = .next
          { s with
            dsc := { s.dsc with queue := s.dsc.queue.filter fun q => q.id != r.id }
            mail := { s.mail with ssv := s.mail.ssv ++ [.commandedImage o false] } })
      ∧ (r.built = false → r.client = .holdup → s.dsc.seqSpent = true →
        exec .arrayGrant s = .next
          { s with
            dsc := { s.dsc with queue := s.dsc.queue.filter fun q => q.id != r.id }
            mail := { s.mail with ssv := s.mail.ssv ++ [.holdupEnd false s.dsc.nextSeq] } })
      ∧ (r.built = false → r.client = .routineImage → s.dsc.seqSpent = true →
        exec .arrayGrant s = .next
          { s with dsc := { s.dsc with queue := s.dsc.queue.filter fun q => q.id != r.id } })
      ∧ (∀ w op more, r.built = false → r.client.configItem = some w →
        let page : Nat × List ArrayOp :=
          match s.dsc.lastPage with
          | none => (0, if s.store.config.erasedIn 0 16 then [] else [.erase 1])
          | some last => if last % 16 = 15 then ((last + 1) % 32, [.erase (1 + (last + 1) % 32 / 16)]) else (last + 1, [])
        let ops : List ArrayOp :=
          page.2 ++ [.program (.configBody page.1), .program (.configMarker page.1 (s.dsc.held.put w))]
        ops = op :: more →
        exec .arrayGrant s = .next
          (started s { d with queue := with1 ops true, lastPage := some page.1 } r.id r.client op)))
  ∧ (∀ c : ConfigRecord,
      let c1 : ConfigRecord := { c with seq := c.seq + 1 }
      (∀ m, c.put (.slotMap m) = { c1 with map := m }) ∧ (∀ m, c.put (.netting m) = { c1 with mode := m })
      ∧ (∀ v, c.put (.length v) = { c1 with length := v }) ∧ (∀ v, c.put (.billingDay v) = { c1 with billingDay := v })
      ∧ (∀ v, c.put (.staticLimit v) = { c1 with ecu := { c.ecu with staticLimit := v } })
      ∧ (∀ v, c.put (.tolerance v) = { c1 with ecu := { c.ecu with tolerance := v } })
      ∧ (∀ v, c.put (.grace v) = { c1 with ecu := { c.ecu with grace := v } })
      ∧ (∀ v, c.put (.ackTime v) = { c1 with ecu := { c.ecu with ackTime := v } })
      ∧ (∀ v, c.put (.minOpen v) = { c1 with ecu := { c.ecu with minOpen := v } })
      ∧ (∀ v, c.put (.utilityThreshold v) = { c1 with utilityThreshold := v })
      ∧ (∀ v, c.put (.siteThreshold v) = { c1 with siteThreshold := v })
      ∧ (∀ level lock, c.put (.protection level lock) = { c1 with level := level, lock := lock }))
  ∧ (∀ (s : State) (g : Gather),
      let u := s.ipu
      let e := s.ecu
      g.take s .nau = { g with nau := some (g.nau.getD s.nau) }
      ∧ g.take s .mfp = { g with mfp := some (g.mfp.getD ⟨s.mfp.map, s.mfp.pendingMap⟩) }
      ∧ g.take s .cck = { g with cck := some (g.cck.getD ⟨s.cck.time, s.cck.valid, s.cck.gen⟩) }
      ∧ g.take s .tcu =
          { g with tcu := some (g.tcu.getD ⟨s.tcu.active.map fun r => r.seq, s.tcu.discarded, s.tcu.nextSeq⟩) }
      ∧ g.take s .ipu =
          { g with ipu := some (g.ipu.getD
            { interval := u.interval, length := u.length, pendingLength := u.pendingLength
              utilityThreshold := u.utility.threshold, siteThreshold := u.site.threshold
              nextNumber := u.nextNumber, numbersSpent := u.numbersSpent, calendarHold := u.calendarHold
              supplyMark := u.supplyMark, queue := u.queue, utilityCursor := u.utility.cursor
              utilitySkip := u.utility.skip, siteCursor := u.site.cursor, siteSkip := u.site.skip }) }
      ∧ g.take s .bfu =
          { g with bfu := some (g.bfu.getD
            ⟨s.bfu.billingDay, s.bfu.captured, s.bfu.deferred, s.bfu.counter, s.bfu.lastDate⟩) }
      ∧ g.take s .ecu =
          { g with ecu := some (g.ecu.getD
            { list := e.list, nextSeq := e.nextSeq, config := e.config, notice := e.notice
              noticeLimit := e.noticeLimit, handshake := e.handshake, settled := e.settled
              interlock := e.interlock, cause := e.cause, hold := e.hold }) }
      ∧ g.take s .cvm = { g with tamper := some (g.tamper.getD s.cvm.tamper) }
      ∧ ∀ seq x, g.image seq = some x ↔
          x.seq = seq
          ∧ g = ⟨g.request, x.cause, some x.nau, some x.mfp, some x.cck, some x.tcu, some x.ipu, some x.bfu, some x.ecu,
              some x.tamper⟩)
  ∧ (∀ (x : CommitImage) (st : Store) (n : Nat), x.ipu.queue.length ≤ 2 → x.ecu.list.length ≤ 8 →
      let cause : Nat := match x.cause with | .routine => 0 | .holdup => 1 | .commanded => 2
      let parts : List (List Byte) :=
        [x.nau.partBytes, x.mfp.bytes, x.cck.bytes, x.tcu.bytes, x.ipu.bytes, x.bfu.bytes, x.ecu.bytes,
          be 1 (if x.tamper then 1 else 0)]
      let body := be 4 x.seq ++ be 1 cause ++ parts.flatMap fun part => be 2 part.length ++ part
      let bytes := body ++ be 2 (crc16 body).toNat
      bytes.length ≤ 1008
      ∧ x.slot = bytes ++ List.replicate (1008 - bytes.length) 0xFF#8 ++ List.replicate 16 0x5A#8
      ∧ x.slot.length = 1024 ∧ validImageSlot x.slot = true
      ∧ (st.images.lookup n = some (.whole x) → st.imageSlot n = some x.slot)
      ∧ (st.images.lookup n = none → st.imageSlot n = some (List.replicate 1024 0xFF#8)))
  ∧ (∀ (s : State) (u : UnitId) (g : Gather), s.dsc.gather = some g →
      let g1 := g.take s u
      (g1.image s.dsc.nextSeq = none →
        exec (.unitImagePart u) s = .next { s with dsc := { s.dsc with gather := some g1 } })
      ∧ (∀ x r, g1.image s.dsc.nextSeq = some x → s.dsc.queue.find? (fun q => q.id == g.request) = some r →
        let slot := s.dsc.nextSlot
        let ops : List ArrayOp :=
          [.program (.imagePage slot 0), .program (.imagePage slot 1), .program (.imagePage slot 2),
            .program (.imagePage slot 3), .program (.imageMarker slot x)]
        x.seq = s.dsc.nextSeq ∧ x.cause = g.cause
        ∧ exec (.unitImagePart u) s = .next
          { s with
            dsc := { s.dsc with
              gather := none
              queue := s.dsc.queue.map fun q => if q.id = r.id then { r with ops := ops, built := true } else q
              inFlight := some ⟨r.id, .program (.imagePage slot 0)⟩
              nextSeq := if x.seq = 4294967295 then x.seq else x.seq + 1
              seqSpent := decide (x.seq = 4294967295) }
            ssv := if x.cause = .holdup then { s.ssv with record := .numbered x.seq } else s.ssv }))

/-- The operation on the array completes: the array takes a verified program, or an erase; the request goes on with its
next operation inside a burst of four, gives the array back after one, or ends with its report; a read carries what it
read. A program that fails puts the store into FAULT: its own request and every other that writes leave the queue refused,
an image's slot is passed, the alarm is raised. The next slot's advance and a routine image's placing are said too. The
operand that says whether a program verifies, what a failed one leaves, and that a frozen set's failed read leaves no valid
record, are the model's choice (log 10), and so are what the hold-up commit's own erase removes from the queue (log 13), that
no routine image is placed once the last sequence has been given (log 19, R165), and that a read of records carries what is
stored (log 21). Once the image of the pending RESTART is reported complete and until SSV takes the report, no operation
completes, since one started then is lost with the restart: the model's reading of R186 (log 33). -/
def Obligations.OperationsComplete : Prop :=
  (∀ s : State,
    let next := (s.dsc.nextSlot + 1) % 32
    let passed : State := { s with dsc := { s.dsc with nextSlot := next } }
    let awaiting : State := { s with dsc := { s.dsc with nextSlot := next, awaitsErase := true } }
    let due := s.dsc.imageWanted = true ∧ s.dsc.fault = false ∧ s.dsc.seqSpent = false
      ∧ ∀ q ∈ s.dsc.queue, q.client ≠ .routineImage
    (next % 4 ≠ 0 → s.advanceSlot = passed)
    ∧ (next % 4 = 0 → s.dsc.fault = true → s.advanceSlot = awaiting)
    ∧ (next % 4 = 0 → s.dsc.fault = false →
      s.advanceSlot = placed awaiting .imageErase [.erase (7 + next / 4)] true)
    ∧ (due → s.placeRoutine = placed s .routineImage [] false)
    ∧ (¬ due → s.placeRoutine = s)
    ∧ s.wantImage = State.placeRoutine { s with dsc := { s.dsc with imageWanted := true } })
  ∧ (∀ (s : State) (res : ArrayResult) (o : Origin),
      s.ssv.commanded = some o → .commandedImage o true ∈ s.mail.ssv → exec (.operationCompletion res) s = .next s)
  ∧ ∀ (s : State) (x : InFlight) (r : StoreRequest) (more : List ArrayOp) (res : ArrayResult) (used : Nat),
    (∀ o, s.ssv.commanded = some o → .commandedImage o true ∉ s.mail.ssv) →
    s.dsc.inFlight = some x → s.dsc.request x.request = some r → r.ops = x.op :: more →
    s.dsc.grant = some ⟨x.request, used⟩ → DistinctIds s.dsc.queue →
    let seq : Nat :=
      (r.ops.findSome? fun op =>
        match op with
        | .program (.imageMarker _ y) => some y.seq
        | _ => none).getD 0
    let q1 (y : StoreRequest) : List StoreRequest :=
      s.dsc.queue.map fun q => if q.id = r.id then { y with ops := more } else q
    let goesOn (store : Store) (d : Dsc) (y : StoreRequest) : Prop :=
      let w : State := { s with store := store }
      (∀ op rest, more = op :: rest → used + 1 < 4 →
        exec (.operationCompletion res) s = .next
          (started w { d with queue := q1 y, grant := some ⟨r.id, used + 1⟩ } r.id r.client op))
      ∧ (more ≠ [] → 4 ≤ used + 1 →
        exec (.operationCompletion res) s = .next
          { w with dsc := { d with queue := q1 y, inFlight := none, grant := none } })
      ∧ (more = [] →
        let ended : State :=
          { w with dsc := { d with
            queue := s.dsc.queue.filter fun q => q.id != r.id, inFlight := none, grant := none } }
        let tellsSsv (m : SsvMail) : State := { ended with mail := { s.mail with ssv := s.mail.ssv ++ [m] } }
        (r.client.isImage = false → r.client ≠ .imageErase → r.client ≠ .calendarMark →
          exec (.operationCompletion res) s = .next
            { ended with
              mail := { s.mail with store := s.mail.store ++ [⟨r.client, .completed, y.records, y.set⟩] } })
        ∧ (r.client = .imageErase →
          exec (.operationCompletion res) s = .next { ended with dsc := { ended.dsc with awaitsErase := false } })
        ∧ (r.client = .calendarMark → exec (.operationCompletion res) s = .next ended)
        ∧ (r.client = .routineImage →
          exec (.operationCompletion res) s = .next ended.advanceSlot.placeRoutine)
        ∧ (∀ o, r.client = .commandedImage o → r.dropped = false →
          exec (.operationCompletion res) s = .next (tellsSsv (.commandedImage o true)).advanceSlot.placeRoutine)
        ∧ (∀ o, r.client = .commandedImage o → r.dropped = true →
          exec (.operationCompletion res) s = .next ended.advanceSlot.placeRoutine)
        ∧ (r.client = .holdup → r.built = true →
          exec (.operationCompletion res) s = .next (tellsSsv (.holdupEnd true seq)).advanceSlot)
        ∧ (r.client = .holdup → r.built = false →
          exec (.operationCompletion res) s = .next
            { w with dsc := { d with
              queue := (q1 y).filter fun q => q.client != .imageErase
              inFlight := none
              grant := some ⟨r.id, used + 1⟩
              awaitsErase := false
              imageWanted := false
              gather := some ⟨r.id, .holdup, none, none, none, none, none, none, none, none⟩ } }))
    (∀ p st, x.op = .program p → res ≠ .failed → s.store.program p = some st →
      goesOn st { s.dsc with held := match p with | .configMarker _ y => y | _ => s.dsc.held } r)
    ∧ (∀ sector, x.op = .erase sector → goesOn (s.store.erase sector) s.dsc r)
    ∧ (∀ slots, x.op = .readRecords slots →
      let read := slots.filterMap fun n =>
        match s.store.profile.lookup n with
        | some (.whole y) => some y
        | _ => none
      goesOn s.store s.dsc { r with records := r.records ++ read })
    ∧ (∀ slot, x.op = .readFrozen slot →
      let found := s.store.frozen.lookup slot
      let unread : StoreRequest := { r with set := none }
      (res ≠ .failed → ∀ f, found = some (.whole f) → goesOn s.store s.dsc { r with set := some f })
      ∧ (res ≠ .failed → (∀ f, found ≠ some (.whole f)) → goesOn s.store s.dsc unread)
      ∧ (res = .failed → found = none → goesOn s.store s.dsc unread)
      ∧ (res = .failed → found ≠ none →
          goesOn { s.store with frozen := s.store.frozen.put slot .torn } s.dsc unread))
    ∧ (∀ p, x.op = .program p → res = .failed ∨ s.store.program p = none →
      let next := (s.dsc.nextSlot + 1) % 32
      let image : Bool :=
        match r.client with
        | .holdup | .routineImage | .commandedImage _ => true
        | _ => false
      let told (c : Client) : List StoreMail :=
        match c with
        | .holdup | .routineImage | .commandedImage _ | .imageErase | .calendarMark => []
        | _ => [⟨c, .refused, [], none⟩]
      let toldSsv (c : Client) : List SsvMail :=
        match c with
        | .commandedImage o => [.commandedImage o false]
        | _ => []
      let refused := s.dsc.queue.filter fun q => q.id != r.id && !(q.client.isRead || q.client == .holdup)
      let ownSsv : List SsvMail :=
        if r.client = .holdup then [.holdupEnd false seq] else if r.dropped then [] else toldSsv r.client
      exec (.operationCompletion res) s = .next
        { s with
          store := s.store.tear p
          dsc := { s.dsc with
            fault := true, alarm := true, inFlight := none, grant := none
            queue := s.dsc.queue.filter fun q => q.id != r.id && (q.client.isRead || q.client == .holdup)
            nextSlot := if image then next else s.dsc.nextSlot
            awaitsErase := if image = true ∧ next % 4 = 0 then true else s.dsc.awaitsErase }
          mail := { s.mail with
            store := s.mail.store ++ told r.client ++ refused.flatMap fun q => told q.client
            ssv := s.mail.ssv ++ ownSsv ++ refused.flatMap fun q => toldSsv q.client
            ulk := s.mail.ulk ++ [⟨.storeFault, true⟩]
            opt := s.mail.opt ++ [⟨.storeFault, true⟩] } })

/-! ## SSV -/

/-- The supply's events: mains good and failing, the end of the hold-up commit, the end of every supply but the cell,
and the loss of the retention mark. The order of the hold-up commit: it stands at the head of the queue, reads leave, an image
under way is cut to its operation in flight or leaves and its slot is passed, a program and an image-region erase complete,
any other erase is suspended, and with nothing left in flight the commit is granted at once. The return: what MFP sent, then
every unit's notice, then the dues reached in HOLDUP. That an unfinished build is discarded and a marker in flight counts as
dropped, what becomes of messages in transit at the entry to BACKUP and at the return, when the retention mark can be lost, and
that a port and MFP drop the bytes of an unfinished frame at the entry to HOLDUP are the model's choice (log 7, 12, 24, 26). So
is that SUPPLY_END leaves the mains view as it stands (log 30). R53 has every armed slot tested at the return: that the slot of
an owner whose change notice still waits is tested after the notice alone is the model's reading of R52, and that a due which a change of time reached, its notice taken
in HOLDUP, comes at the return as reached by advance is the model's choice (log 17). That the Optical Port takes CVM's cover
state at the start of GATING, without a report of it, is the model's choice too (log 32), and what BACKUP leaves of an
operation on the array is a free value (log 11). -/
def Obligations.SupplyStatesFollowMains : Prop :=
  ∀ s : State,
    (s.ssv.supply = .backup →
      exec .mainsGood s = .next
        { s with
          ssv := { s.ssv with mainsGood := true, supply := .start, phase := some .gating, gatingMs := some 0 }
          opt := { s.opt with coverView := s.cvm.cover } })
    ∧ (s.ssv.supply ≠ .backup →
      exec .mainsGood s = .next { s with ssv := { s.ssv with mainsGood := true } })
    ∧ (s.ssv.supply = .mains →
      let held (x : Port) : Port := { x with inProgress := none, writeEnable := false, collecting := [] }
      exec .mainsFail s = .next
        (State.orderHoldup
          { s with
            ssv := { s.ssv with mainsGood := false, supply := .holdup, record := .ordered, commanded := none }
            mfp := { s.mfp with deadline := none, collecting := [] }
            ipu := supplyFlagged s.ipu
            exportPermit := false
            ulk := held s.ulk
            slk := held s.slk
            opt := held s.opt }))
    ∧ (let running (q : StoreRequest) : Bool :=
        match s.dsc.inFlight with
        | some x => x.request == q.id
        | none => false
      let imaging (q : StoreRequest) : Bool :=
        match q.client with
        | .routineImage | .commandedImage _ => q.built
        | _ => false
      let cut := ∃ q ∈ s.dsc.queue, imaging q = true ∧ running q = false
      let stays : List StoreRequest := s.dsc.queue.filterMap fun q =>
        if q.client.isRead then none
        else if imaging q then (if running q then some { q with ops := q.ops.take 1, dropped := true } else none)
        else some q
      let left (f : Option InFlight) (held : Option InFlight) (g : Option Grant) : State :=
        { s with dsc := { s.dsc with queue := stays, gather := none, inFlight := f, suspended := held, grant := g } }
      let ordered (u : State) (v : State) : Prop :=
        (cut → v = placed u.advanceSlot.placeRoutine .holdup [] false) ∧ (¬ cut → v = placed u .holdup [] false)
      let t := s.orderHoldup
      (∀ i p, s.dsc.inFlight = some ⟨i, .program p⟩ → ordered (left s.dsc.inFlight s.dsc.suspended (some ⟨i, 4⟩)) t)
      ∧ (∀ i sector, s.dsc.inFlight = some ⟨i, .erase sector⟩ → 7 ≤ sector → sector ≤ 14 →
          ordered (left s.dsc.inFlight s.dsc.suspended (some ⟨i, 4⟩)) t)
      ∧ (∀ i sector, s.dsc.inFlight = some ⟨i, .erase sector⟩ → sector < 7 ∨ 14 < sector →
          ∃ v, ordered (left none (some ⟨i, .erase sector⟩) none) v ∧ exec .arrayGrant v = .next t)
      ∧ ((s.dsc.inFlight = none ∨ ∃ i op, s.dsc.inFlight = some ⟨i, op⟩ ∧ (∀ p, op ≠ .program p) ∧ ∀ k, op ≠ .erase k) →
          ∃ v, ordered (left none s.dsc.suspended none) v ∧ exec .arrayGrant v = .next t)
      ∧ ∀ u : State, (∀ q ∈ u.dsc.queue, 1 < q.priority) →
          (placed u .holdup [] false).dsc.queue = ⟨u.dsc.nextId, 1, .holdup, [], false, false, [], none⟩ :: u.dsc.queue)
    ∧ (s.ssv.supply = .start → ∃ t, exec .mainsFail s = .next t
      ∧ LosesMains { s with ssv := { s.ssv with mainsGood := false } } t)
    ∧ (s.ssv.supply = .holdup ∨ s.ssv.supply = .backup →
      exec .mainsFail s = .next { s with ssv := { s.ssv with mainsGood := false } })
    ∧ (s.ssv.supply = .holdup ∨ s.ssv.supply = .start → ∃ t, exec .supplyEnd s = .next t ∧ LosesMains s t)
    ∧ (s.ssv.supply = .mains ∨ s.ssv.supply = .backup → exec .supplyEnd s = .next s)
    ∧ (s.ssv.supply = .backup →
      exec .retentionMarkLost s = .next { s with cck := .blank, cvm := .blank, ssv := .blank })
    ∧ (s.ssv.supply ≠ .backup → exec .retentionMarkLost s = .next s)
    ∧ (∀ ok seq rest, s.ssv.supply = .holdup → s.mail.ssv = .holdupEnd ok seq :: rest →
      (s.ssv.mainsGood = false → ∃ t, exec .holdupCommitEnd s = .next t
        ∧ LosesMains { s with ssv := { s.ssv with record := if ok then .complete seq else .failed seq } } t)
      ∧ (s.ssv.mainsGood = true →
        let lost : List AttentionReport := if s.mfp.port = .lost then [⟨.measurementLost, false⟩] else []
        let a : State :=
          { s with
            ssv := { s.ssv with supply := .mains, record := .none }
            mfp := { s.mfp with
              port := .idle, expected := none, rebase := false, misses := 0, reported := 0, lastAccept := none
              live := none, collecting := [], deadline := some (s.mfp.timer + 1500) }
            mail := { s.mail with
              ssv := rest
              ecuMfp := s.mail.ecuMfp ++ (if s.mfp.port = .idle then [] else [.port .idle])
              ulk := s.mail.ulk ++ lost
              slk := s.mail.slk ++ lost } }
        let b := a.settleMfp
        let c : State :=
          { b with
            ipu := { supplyFlagged b.ipu with supplyMark := some b.cck.time }
            exportPermit := decide (b.ecu.interlock = .closed)
            cvm := { b.cvm with unpowered := false }
            dsc :=
              match b.dsc.suspended with
              | some x => { b.dsc with suspended := none, inFlight := some x, grant := some ⟨x.request, 4⟩ }
              | none => b.dsc
            mail := { b.mail with ipuTamper := b.mail.ipuTamper + (if b.cvm.unpowered then 1 else 0) } }
        ∃ t, exec .holdupCommitEnd s = .next t
          ∧ t = { c with cck := t.cck, mail := t.mail }
          ∧ t.cck = { c.cck with due := t.cck.due }
          ∧ t.mail = { c.mail with clockIpu := t.mail.clockIpu, clockTcu := t.mail.clockTcu,
                                   clockBfu := t.mail.clockBfu, clockEcu := t.mail.clockEcu }
          ∧ ∀ o,
              (∀ d, c.noticeWaits o = false → c.cck.due.get o = some d → d ≤ c.cck.time →
                t.cck.due.get o = none
                ∧ t.mail.clock o = c.mail.clock o ++ [.due ⟨d, c.cck.time, c.cck.gen, .byAdvance⟩])
              ∧ (c.noticeWaits o = true ∨ (∀ d, c.cck.due.get o = some d → c.cck.time < d) →
                t.cck.due.get o = c.cck.due.get o ∧ t.mail.clock o = c.mail.clock o)))
    ∧ (s.mail.ecuMfp = [] → s.settleMfp = { s with ecu := { s.ecu with view := .idle } })
    ∧ (s.ssv.supply = .mains → ∀ u,
      (∀ inc rest, s.mail.ecuMfp = .epoch inc :: rest → exec .ecuEpochIncrement s = .next u →
        s.settleMfp = u.settleMfp)
      ∧ (∀ st rest, s.mail.ecuMfp = .port st :: rest → exec .ecuMfpStateReport s = .next u →
        s.settleMfp = u.settleMfp))

/-- The restarts: what begins one, which image, configuration record and frozen set it finds, and what DSC, CCK, NAU, MFP, TCU,
IPU, BFU, ECU, CVM and the ports take from them, with the write step of a captured set. That the gating time's command makes
its moment arrive is the model's choice (log 4). That every message in transit is lost at the entry to START, at an external
reset in MAINS too, is the model's reading (log 7), and a port's unfinished frame goes with them (log 24). What an interrupted
operation leaves is a free value (log 11). That the Optical Port takes CVM's cover state without a report of it is the model's
choice (log 32). The answer to RESTART once the last sequence has been given, a refusal no restart waits for, the second phase
with the cell LOW, the tests of a slot's bytes, the calendar that waits of two, a mark page partly programmed, the verdict
after an interrupted restore, whether the last append number has been given, the values held until a unit resumes, MFP's among
them, and what counts as an opening with the cell LOW are the model's choice (log 2, 9, 16, 19, 26, 30, 31). That the report on
an abandoned RESTART's image does nothing also while another is pending is the model's reading of R186 (log 33). -/
def Obligations.RestartsRestoreImage : Prop :=
  ∀ s : State,
    (s.ssv.supply = .start → s.ssv.phase = some .gating →
      exec .gatingTimerExpiry s = .next
        (State.restart { s with ssv := { s.ssv with
          cellGood := s.ssv.retention, record := if s.ssv.retention then s.ssv.record else .none
          cause := .mainsReturn } }))
    ∧ (s.ssv.supply = .mains →
      exec .externalReset s = .next (State.restart { s with ssv := { s.ssv with cause := .externalReset } }))
    ∧ (s.ssv.supply = .start → s.ssv.phase = some .restoring → exec .externalReset s = .next s.restart)
    ∧ (s.ssv.supply = .start → s.ssv.phase = some .gating → exec .externalReset s = .next s)
    ∧ (s.ssv.supply = .holdup ∨ s.ssv.supply = .backup → exec .externalReset s = .next s)
    ∧ (∀ p tag, Admitted s p 0x75 [] →
      let w : State := { waiting s p 0x75 tag with ssv := { s.ssv with commanded := some (nextOrigin s p) } }
      (s.dsc.seqSpent = false → s.dsc.fault = false →
        exec (.restart p tag []) s = .next (placed w (.commandedImage (nextOrigin s p)) [] false))
      ∧ (s.dsc.seqSpent = true ∨ s.dsc.fault = true →
        exec (.restart p tag []) s = .next
          { w with mail := { s.mail with ssv := s.mail.ssv ++ [.commandedImage (nextOrigin s p) false] } }))
    ∧ (∀ o ok rest, s.mail.ssv = .commandedImage o ok :: rest →
      let w : State := { s with
        ssv := { s.ssv with commanded := none }, mail := { s.mail with ssv := rest } }
      (s.ssv.commanded = some o → ok = false →
        exec .commandedImageCompletion s = .next (concluded w o .storeFault []))
      ∧ (s.ssv.commanded = some o → ok = true →
        exec .commandedImageCompletion s = .next
          (State.restart (State.setSsv (concluded w o .ok [])
            { s.ssv with commanded := none, cause := .commandedImage })))
      ∧ (s.ssv.commanded ≠ some o →
        exec .commandedImageCompletion s = .next { s with mail := { s.mail with ssv := rest } }))
    ∧ Newest (fun x => x.seq) s.store.validImages s.store.newestImage
    ∧ (∀ n x, (n, x) ∈ s.store.validImages ↔ (n, Written.whole x) ∈ s.store.images ∧ validImageSlot x.slot = true)
    ∧ Newest (fun c => c.seq) s.store.config.valid s.store.newestConfig
    ∧ Newest (fun f => f.number) s.store.frozen.valid s.store.newestFrozen
    ∧ (s.store.wf = true →
      let t := s.restart
      let st := s.cutOperations.store
      let image := st.newestImage.map fun e => e.2
      let frozen := st.newestFrozen.map fun e => e.2
      let held : ConfigRecord :=
        match st.newestConfig with
        | some (_, c) => c
        | none => ⟨0, .allUnused, .summed, 15, 0, ⟨5000, 100, 30, 60, 300⟩, 96, 96, 0, false⟩
      let kind := t.ssv.kind
      let unkept := s.ssv.cause = .mainsReturn ∧ s.ssv.cellGood = false
      t.ssv = { s.ssv with
          supply := .start, phase := some .restoring, gatingMs := none, kind := kind, commanded := none, retention := true
          writeStep := t.ssv.writeStep, resumed := false, owed := ⟨false, false, false, false, false⟩ }
      ∧ (∀ x, image = some x → kind =
          (match s.ssv.cause with
            | .mainsReturn => .supply
            | .commandedImage => .commanded
            | .externalReset => .resetInput))
      ∧ (image = none → kind = if t.dsc.lifecycle = .inService then .imageLost else .cold)
      ∧ t.store = st ∧ t.mail = .empty ∧ t.exportPermit = false ∧ t.coverSwitch = s.coverSwitch ∧ t.pending = s.pending
      ∧ DscScanned st kind t.dsc ∧ WriteStepBegun s.dsc.nextId t
      ∧ ClockRestarted s.cck kind unkept image frozen t.cck
      ∧ TariffRestored st image t.tcu
      ∧ ProfileRestored st kind s.ssv.cellGood s.ssv.record held image t.ipu
      ∧ BillingRestored st held image t.bfu
      ∧ ExportRestored held image t.ecu
      ∧ (¬ unkept → t.cvm = s.cvm)
      ∧ (unkept → s.coverSwitch = .opened → s.cvm.cover = .closed → t.cvm = ⟨.opened, true, true⟩)
      ∧ (unkept → s.coverSwitch = .closed ∨ s.cvm.cover = .opened → t.cvm =
          ⟨s.coverSwitch, match image with | some x => x.tamper | none => false, false⟩)
      ∧ t.ulk = portEmptied s.ulk t.cvm.cover ∧ t.slk = portEmptied s.slk t.cvm.cover
      ∧ t.opt = portEmptied s.opt t.cvm.cover
      ∧ (∀ x, image = some x →
        t.nau = x.nau
        ∧ t.mfp = { Mfp.blank with map := x.mfp.map, pendingMap := x.mfp.pendingMap, timer := s.mfp.timer })
      ∧ (image = none →
        t.mfp = { Mfp.blank with map := held.map, timer := s.mfp.timer }
        ∧ t.nau.mode = held.mode ∧ t.nau.pendingMode = none
        ∧ t.nau.table.res = ⟨0, 0, 0⟩ ∧ t.nau.table.demands = .empty
        ∧ (∀ f, frozen = some f →
            t.nau.table.regs = { f.regs with
              totalImp := f.regs.imp.sum % 10000000000, totalExp := f.regs.exp.sum % 10000000000 }
            ∧ t.nau.table.calendarId = f.calendarId)
        ∧ (frozen = none → t.nau.table.regs = .zero ∧ t.nau.table.calendarId = none)))

/-- The resumption of units and the entry to service. What becomes of the reports sent to a port before service, and the
values held until a unit resumes, are the model's choice (log 16, 25), and so are that a deferred freeze is dropped with its
flag when the last number has been given (log 30), that one is taken under an UNSET clock too, and that the activation mark
is one program (log 31). So are the close time of a saved interval whose parts were given at different moments, that an
interlock read here as not CLOSED flags no saved interval closed at the image's time, and that an image without an interval
opens a new one (log 32). That a resumed interval keeps its saved band is the model's choice too (log 16). BFU's
armed instant already passed gives its due event at once. -/
def Obligations.UnitsResumeIntoService : Prop :=
  ∀ s : State, s.ssv.supply = .start → 0 < s.ipu.length →
    let now := s.cck.time
    let valid := s.cck.valid
    let told (o : Owed) : State := { s with ssv := { s.ssv with owed := o } }
    let owed := s.ssv.owed
    (s.ssv.phase = some .restoring → s.ssv.writeStep = false → s.ssv.resumed = false →
      let t : State := { s with ssv := { s.ssv with resumed := true, owed := ⟨true, true, true, true, true⟩ } }
      exec .resumption s = .next
        (if s.dsc.awaitsErase = true ∧ s.dsc.fault = false ∧ ∀ q ∈ s.dsc.queue, q.client ≠ .imageErase then
          placed t .imageErase [.erase (7 + s.dsc.nextSlot / 4)] true
        else t))
    ∧ (s.ssv.resumed = true → owed.ipu = true →
      let u : Ipu := { s.ipu with valid := valid, interlockClosed := decide (s.ecu.interlock = .closed), savedAt := none }
      let opens (t : State) (v : Ipu) : State :=
        let iv := v.opened now s.cck.gen s.tcu.band
        { t with
          ipu := { v with interval := some iv, calendarHold := false, supplyMark := none }
          cck := { s.cck with due := { s.cck.due with ipu := some iv.slotEnd } } }
      let w := told { owed with ipu := false }
      (s.ipu.interval = none ∨ s.ipu.savedAt = none →
        exec .ipuResumption s = .next (resumeQueue (opens w u)))
      ∧ (∀ saved imageTime, s.ipu.interval = some saved → s.ipu.savedAt = some imageTime →
        let iv : OpenInterval :=
          { saved with flags := { saved.flags with supplyLoss := saved.flags.supplyLoss || s.ssv.kind == .supply } }
        let inside := iv.gen = s.cck.gen ∧ iv.start ≤ now ∧ now < iv.slotEnd
        (inside →
          let resumed : OpenInterval :=
            { iv with flags := { iv.flags with curtailed := iv.flags.curtailed || s.ecu.interlock != .closed } }
          exec .ipuResumption s = .next
            (resumeQueue
              { w with
                ipu := { u with interval := some resumed }
                cck := { s.cck with due := { s.cck.due with ipu := some iv.slotEnd } } }))
        ∧ (¬ inside → 0 < s.ipu.pendingLength.getD s.ipu.length →
          let closing : OpenInterval := { iv with flags := { iv.flags with partialInterval := true } }
          let v : Ipu :=
            { u.build closing imageTime with
              length := s.ipu.pendingLength.getD s.ipu.length, pendingLength := none, supplyMark := none }
          let report : DemandReport :=
            ⟨iv.band, iv.imp * 36 / (10 * (s.ipu.length * 60)), iv.exp * 36 / (10 * (s.ipu.length * 60)), imageTime⟩
          exec .ipuResumption s = .next
            (resumeQueue
              (opens
                { w with mail := { s.mail with
                  nauCloses := s.mail.nauCloses ++ [.close, .demand report]
                  mfpCloses := s.mail.mfpCloses + 1
                  tcuLengths := s.mail.tcuLengths + (if s.ipu.pendingLength.isSome then 1 else 0) } } v)))))
    ∧ (s.ssv.resumed = true → owed.tcu = true →
      let u : Tcu := { s.tcu with boundary := s.tcu.boundaryAt s.ipu.length now valid }
      let band := u.decide now valid
      let w := told { owed with tcu := false }
      let t : State :=
        { w with
          tcu := { u with band := band, markOwed := false }
          cck := { s.cck with due := { s.cck.due with tcu := u.dueTime now valid } }
          mail := { s.mail with ipuBands := s.mail.ipuBands ++ (if band = s.tcu.band then [] else [⟨band, now⟩]) } }
      exec .tcuResumption s = .next
        (if s.tcu.markOwed = true ∧ s.dsc.fault = false then
          placed t .calendarMark [.program (.activationMark s.tcu.activeSector)] true
        else t))
    ∧ (s.ssv.resumed = true → owed.bfu = true →
      let w := told { owed with bfu := false }
      let x : State := { w with bfu := { s.bfu with deferred := false } }
      let t :=
        if s.bfu.captured = none ∧ s.bfu.deferred = true then
          (if s.bfu.counter = 4294967295 then x else freezeTaken x .scheduled s.bfu.lastDate)
        else w
      let sector := 5 + s.bfu.writePos / 16
      let due := s.bfu.dueTime now valid
      exec .bfuResumption s = .next
        (rearmedBfu (if s.bfu.erase = .requested then asked t (.frozenErase sector) [.erase sector] true else t) due
          .byAdvance))
    ∧ (s.ssv.resumed = true → owed.ecu = true →
      let w := told { owed with ecu := false }
      let arm (t : State) : State := t.armEcu valid .byAdvance
      (s.ssv.kind = .cold ∨ s.ssv.kind = .imageLost → exec .ecuResumption s = .next (arm w))
      ∧ (s.ssv.kind = .supply ∨ s.ssv.kind = .commanded ∨ s.ssv.kind = .resetInput →
        let l := if valid then broughtTo s.ecu.list now else s.ecu.list
        let g := governingOf l valid
        let eff := (g.map fun d => min s.ecu.config.staticLimit d.limit).getD s.ecu.config.staticLimit
        let issues := s.ecu.handshake = .notified ∨ eff ≠ s.ecu.noticeLimit
        let e : Ecu :=
          { s.ecu with
            list := l, governing := g.map fun d => (d.id, d.seq), effective := eff, excursion := 0, view := .idle
            openEnd :=
              if s.ecu.interlock = .openWait ∨ s.ecu.interlock = .held then some (now + s.ecu.config.minOpen) else none }
        let issued : Ecu :=
          { e with
            notice := (s.ecu.notice + 1) % 65536, noticeLimit := eff
            handshake := if s.ecu.handshake = .overdue then .overdue else .notified
            deadline := if s.ecu.handshake = .overdue then none else some (now + s.ecu.config.ackTime) }
        let t := withList w l
        exec .ecuResumption s = .next
          (arm
            { t with
              ecu := if issues then issued else e
              mail := { s.mail with slk := s.mail.slk ++ (if issues then [⟨.setpointNotice, true⟩] else []) } })))
    ∧ (s.ssv.resumed = true → owed.cvm = true →
      exec .cvmResumption s = .next
        { told { owed with cvm := false } with
          cvm := { s.cvm with unpowered := false }
          mail := { s.mail with ipuTamper := s.mail.ipuTamper + (if s.cvm.unpowered then 1 else 0) } })
    ∧ (s.ssv.resumed = true → owed = ⟨false, false, false, false, false⟩ →
      let service (p : PortId) : Port :=
        let x := s.port p
        let levels : Members :=
          { Members.none with
            setpointNotice := decide (p = .slk ∧ s.ecu.handshake ≠ .settled)
            tamper := decide (p ≠ .slk ∧ s.cvm.tamper = true)
            timeUnset := decide (p = .ulk ∧ valid = false)
            storeFault := decide (p ≠ .slk ∧ s.dsc.alarm = true)
            restarted := true }
        { x with attention := levels, restartKind := s.ssv.kind, mask := .none, line := true }
      let events (l : List AttentionReport) : List AttentionReport := l.filter fun r => !isLevel r.member
      exec .serviceEntry s = .next
        { s with
          ssv := { s.ssv with supply := .mains, phase := none, resumed := false, record := .none }
          exportPermit := decide (s.ecu.interlock = .closed)
          mfp := { s.mfp with
            port := .idle, expected := none, rebase := false, misses := 0, reported := 0, lastAccept := none
            live := none, collecting := [], deadline := some (s.mfp.timer + 1500) }
          mail := { s.mail with ulk := events s.mail.ulk, slk := events s.mail.slk, opt := events s.mail.opt }
          ulk := service .ulk
          slk := service .slk
          opt := service .opt })

/-! ## Invariants -/

/-- Every step keeps the settlement table in balance. -/
def Obligations.StepKeepsTablesBalanced : Prop :=
  ∀ s t : State, TablesBalanced s → step s = .next t → TablesBalanced t

/-- Every step keeps the array in its canonical form. The form is the model's own (log 9). -/
def Obligations.StepKeepsArrayCanonical : Prop :=
  ∀ s t : State, s.store.wf = true → step s = .next t → t.store.wf = true

/-- Every step keeps export control sound. -/
def Obligations.StepKeepsExportSound : Prop :=
  ∀ s t : State, ExportSound s → step s = .next t → ExportSound t

/-- Every step keeps the ports sound and the clock in range. -/
def Obligations.StepKeepsPortsAndClockSound : Prop :=
  (∀ s t : State, PortsSound s → step s = .next t → PortsSound t)
  ∧ (∀ s t : State, ClockSound s → step s = .next t → ClockSound t)

/-- The state after reset meets every invariant. That reset is the state after a first COLD restart is the model's
choice (log 1). -/
def Obligations.ResetMeetsInvariants : Prop :=
  TablesBalanced State.reset ∧ State.reset.store.wf = true ∧ ExportSound State.reset ∧ PortsSound State.reset
  ∧ ClockSound State.reset
end

