-- ==== Sys2Proof/Laws/State.lean ====
section
/-! SUPPORT. One lemma for each component and each setter of the state, true by rfl. -/

namespace Sys2Proof.Machine

@[simp] theorem State.setMfp_mfp (s : State) (x : Mfp) : (s.setMfp x).mfp = x := rfl
@[simp] theorem State.setMfp_nau (s : State) (x : Mfp) : (s.setMfp x).nau = s.nau := rfl
@[simp] theorem State.setMfp_cck (s : State) (x : Mfp) : (s.setMfp x).cck = s.cck := rfl
@[simp] theorem State.setMfp_tcu (s : State) (x : Mfp) : (s.setMfp x).tcu = s.tcu := rfl
@[simp] theorem State.setMfp_ipu (s : State) (x : Mfp) : (s.setMfp x).ipu = s.ipu := rfl
@[simp] theorem State.setMfp_bfu (s : State) (x : Mfp) : (s.setMfp x).bfu = s.bfu := rfl
@[simp] theorem State.setMfp_ecu (s : State) (x : Mfp) : (s.setMfp x).ecu = s.ecu := rfl
@[simp] theorem State.setMfp_dsc (s : State) (x : Mfp) : (s.setMfp x).dsc = s.dsc := rfl
@[simp] theorem State.setMfp_ssv (s : State) (x : Mfp) : (s.setMfp x).ssv = s.ssv := rfl
@[simp] theorem State.setMfp_cvm (s : State) (x : Mfp) : (s.setMfp x).cvm = s.cvm := rfl
@[simp] theorem State.setMfp_ulk (s : State) (x : Mfp) : (s.setMfp x).ulk = s.ulk := rfl
@[simp] theorem State.setMfp_slk (s : State) (x : Mfp) : (s.setMfp x).slk = s.slk := rfl
@[simp] theorem State.setMfp_opt (s : State) (x : Mfp) : (s.setMfp x).opt = s.opt := rfl
@[simp] theorem State.setMfp_store (s : State) (x : Mfp) : (s.setMfp x).store = s.store := rfl
@[simp] theorem State.setMfp_mail (s : State) (x : Mfp) : (s.setMfp x).mail = s.mail := rfl
@[simp] theorem State.setMfp_exportPermit (s : State) (x : Mfp) : (s.setMfp x).exportPermit = s.exportPermit := rfl
@[simp] theorem State.setMfp_coverSwitch (s : State) (x : Mfp) : (s.setMfp x).coverSwitch = s.coverSwitch := rfl
@[simp] theorem State.setMfp_freeIndex (s : State) (x : Mfp) : (s.setMfp x).freeIndex = s.freeIndex := rfl
@[simp] theorem State.setMfp_pending (s : State) (x : Mfp) : (s.setMfp x).pending = s.pending := rfl
@[simp] theorem State.setNau_mfp (s : State) (x : Nau) : (s.setNau x).mfp = s.mfp := rfl
@[simp] theorem State.setNau_nau (s : State) (x : Nau) : (s.setNau x).nau = x := rfl
@[simp] theorem State.setNau_cck (s : State) (x : Nau) : (s.setNau x).cck = s.cck := rfl
@[simp] theorem State.setNau_tcu (s : State) (x : Nau) : (s.setNau x).tcu = s.tcu := rfl
@[simp] theorem State.setNau_ipu (s : State) (x : Nau) : (s.setNau x).ipu = s.ipu := rfl
@[simp] theorem State.setNau_bfu (s : State) (x : Nau) : (s.setNau x).bfu = s.bfu := rfl
@[simp] theorem State.setNau_ecu (s : State) (x : Nau) : (s.setNau x).ecu = s.ecu := rfl
@[simp] theorem State.setNau_dsc (s : State) (x : Nau) : (s.setNau x).dsc = s.dsc := rfl
@[simp] theorem State.setNau_ssv (s : State) (x : Nau) : (s.setNau x).ssv = s.ssv := rfl
@[simp] theorem State.setNau_cvm (s : State) (x : Nau) : (s.setNau x).cvm = s.cvm := rfl
@[simp] theorem State.setNau_ulk (s : State) (x : Nau) : (s.setNau x).ulk = s.ulk := rfl
@[simp] theorem State.setNau_slk (s : State) (x : Nau) : (s.setNau x).slk = s.slk := rfl
@[simp] theorem State.setNau_opt (s : State) (x : Nau) : (s.setNau x).opt = s.opt := rfl
@[simp] theorem State.setNau_store (s : State) (x : Nau) : (s.setNau x).store = s.store := rfl
@[simp] theorem State.setNau_mail (s : State) (x : Nau) : (s.setNau x).mail = s.mail := rfl
@[simp] theorem State.setNau_exportPermit (s : State) (x : Nau) : (s.setNau x).exportPermit = s.exportPermit := rfl
@[simp] theorem State.setNau_coverSwitch (s : State) (x : Nau) : (s.setNau x).coverSwitch = s.coverSwitch := rfl
@[simp] theorem State.setNau_freeIndex (s : State) (x : Nau) : (s.setNau x).freeIndex = s.freeIndex := rfl
@[simp] theorem State.setNau_pending (s : State) (x : Nau) : (s.setNau x).pending = s.pending := rfl
@[simp] theorem State.setCck_mfp (s : State) (x : Cck) : (s.setCck x).mfp = s.mfp := rfl
@[simp] theorem State.setCck_nau (s : State) (x : Cck) : (s.setCck x).nau = s.nau := rfl
@[simp] theorem State.setCck_cck (s : State) (x : Cck) : (s.setCck x).cck = x := rfl
@[simp] theorem State.setCck_tcu (s : State) (x : Cck) : (s.setCck x).tcu = s.tcu := rfl
@[simp] theorem State.setCck_ipu (s : State) (x : Cck) : (s.setCck x).ipu = s.ipu := rfl
@[simp] theorem State.setCck_bfu (s : State) (x : Cck) : (s.setCck x).bfu = s.bfu := rfl
@[simp] theorem State.setCck_ecu (s : State) (x : Cck) : (s.setCck x).ecu = s.ecu := rfl
@[simp] theorem State.setCck_dsc (s : State) (x : Cck) : (s.setCck x).dsc = s.dsc := rfl
@[simp] theorem State.setCck_ssv (s : State) (x : Cck) : (s.setCck x).ssv = s.ssv := rfl
@[simp] theorem State.setCck_cvm (s : State) (x : Cck) : (s.setCck x).cvm = s.cvm := rfl
@[simp] theorem State.setCck_ulk (s : State) (x : Cck) : (s.setCck x).ulk = s.ulk := rfl
@[simp] theorem State.setCck_slk (s : State) (x : Cck) : (s.setCck x).slk = s.slk := rfl
@[simp] theorem State.setCck_opt (s : State) (x : Cck) : (s.setCck x).opt = s.opt := rfl
@[simp] theorem State.setCck_store (s : State) (x : Cck) : (s.setCck x).store = s.store := rfl
@[simp] theorem State.setCck_mail (s : State) (x : Cck) : (s.setCck x).mail = s.mail := rfl
@[simp] theorem State.setCck_exportPermit (s : State) (x : Cck) : (s.setCck x).exportPermit = s.exportPermit := rfl
@[simp] theorem State.setCck_coverSwitch (s : State) (x : Cck) : (s.setCck x).coverSwitch = s.coverSwitch := rfl
@[simp] theorem State.setCck_freeIndex (s : State) (x : Cck) : (s.setCck x).freeIndex = s.freeIndex := rfl
@[simp] theorem State.setCck_pending (s : State) (x : Cck) : (s.setCck x).pending = s.pending := rfl
@[simp] theorem State.setTcu_mfp (s : State) (x : Tcu) : (s.setTcu x).mfp = s.mfp := rfl
@[simp] theorem State.setTcu_nau (s : State) (x : Tcu) : (s.setTcu x).nau = s.nau := rfl
@[simp] theorem State.setTcu_cck (s : State) (x : Tcu) : (s.setTcu x).cck = s.cck := rfl
@[simp] theorem State.setTcu_tcu (s : State) (x : Tcu) : (s.setTcu x).tcu = x := rfl
@[simp] theorem State.setTcu_ipu (s : State) (x : Tcu) : (s.setTcu x).ipu = s.ipu := rfl
@[simp] theorem State.setTcu_bfu (s : State) (x : Tcu) : (s.setTcu x).bfu = s.bfu := rfl
@[simp] theorem State.setTcu_ecu (s : State) (x : Tcu) : (s.setTcu x).ecu = s.ecu := rfl
@[simp] theorem State.setTcu_dsc (s : State) (x : Tcu) : (s.setTcu x).dsc = s.dsc := rfl
@[simp] theorem State.setTcu_ssv (s : State) (x : Tcu) : (s.setTcu x).ssv = s.ssv := rfl
@[simp] theorem State.setTcu_cvm (s : State) (x : Tcu) : (s.setTcu x).cvm = s.cvm := rfl
@[simp] theorem State.setTcu_ulk (s : State) (x : Tcu) : (s.setTcu x).ulk = s.ulk := rfl
@[simp] theorem State.setTcu_slk (s : State) (x : Tcu) : (s.setTcu x).slk = s.slk := rfl
@[simp] theorem State.setTcu_opt (s : State) (x : Tcu) : (s.setTcu x).opt = s.opt := rfl
@[simp] theorem State.setTcu_store (s : State) (x : Tcu) : (s.setTcu x).store = s.store := rfl
@[simp] theorem State.setTcu_mail (s : State) (x : Tcu) : (s.setTcu x).mail = s.mail := rfl
@[simp] theorem State.setTcu_exportPermit (s : State) (x : Tcu) : (s.setTcu x).exportPermit = s.exportPermit := rfl
@[simp] theorem State.setTcu_coverSwitch (s : State) (x : Tcu) : (s.setTcu x).coverSwitch = s.coverSwitch := rfl
@[simp] theorem State.setTcu_freeIndex (s : State) (x : Tcu) : (s.setTcu x).freeIndex = s.freeIndex := rfl
@[simp] theorem State.setTcu_pending (s : State) (x : Tcu) : (s.setTcu x).pending = s.pending := rfl
@[simp] theorem State.setIpu_mfp (s : State) (x : Ipu) : (s.setIpu x).mfp = s.mfp := rfl
@[simp] theorem State.setIpu_nau (s : State) (x : Ipu) : (s.setIpu x).nau = s.nau := rfl
@[simp] theorem State.setIpu_cck (s : State) (x : Ipu) : (s.setIpu x).cck = s.cck := rfl
@[simp] theorem State.setIpu_tcu (s : State) (x : Ipu) : (s.setIpu x).tcu = s.tcu := rfl
@[simp] theorem State.setIpu_ipu (s : State) (x : Ipu) : (s.setIpu x).ipu = x := rfl
@[simp] theorem State.setIpu_bfu (s : State) (x : Ipu) : (s.setIpu x).bfu = s.bfu := rfl
@[simp] theorem State.setIpu_ecu (s : State) (x : Ipu) : (s.setIpu x).ecu = s.ecu := rfl
@[simp] theorem State.setIpu_dsc (s : State) (x : Ipu) : (s.setIpu x).dsc = s.dsc := rfl
@[simp] theorem State.setIpu_ssv (s : State) (x : Ipu) : (s.setIpu x).ssv = s.ssv := rfl
@[simp] theorem State.setIpu_cvm (s : State) (x : Ipu) : (s.setIpu x).cvm = s.cvm := rfl
@[simp] theorem State.setIpu_ulk (s : State) (x : Ipu) : (s.setIpu x).ulk = s.ulk := rfl
@[simp] theorem State.setIpu_slk (s : State) (x : Ipu) : (s.setIpu x).slk = s.slk := rfl
@[simp] theorem State.setIpu_opt (s : State) (x : Ipu) : (s.setIpu x).opt = s.opt := rfl
@[simp] theorem State.setIpu_store (s : State) (x : Ipu) : (s.setIpu x).store = s.store := rfl
@[simp] theorem State.setIpu_mail (s : State) (x : Ipu) : (s.setIpu x).mail = s.mail := rfl
@[simp] theorem State.setIpu_exportPermit (s : State) (x : Ipu) : (s.setIpu x).exportPermit = s.exportPermit := rfl
@[simp] theorem State.setIpu_coverSwitch (s : State) (x : Ipu) : (s.setIpu x).coverSwitch = s.coverSwitch := rfl
@[simp] theorem State.setIpu_freeIndex (s : State) (x : Ipu) : (s.setIpu x).freeIndex = s.freeIndex := rfl
@[simp] theorem State.setIpu_pending (s : State) (x : Ipu) : (s.setIpu x).pending = s.pending := rfl
@[simp] theorem State.setBfu_mfp (s : State) (x : Bfu) : (s.setBfu x).mfp = s.mfp := rfl
@[simp] theorem State.setBfu_nau (s : State) (x : Bfu) : (s.setBfu x).nau = s.nau := rfl
@[simp] theorem State.setBfu_cck (s : State) (x : Bfu) : (s.setBfu x).cck = s.cck := rfl
@[simp] theorem State.setBfu_tcu (s : State) (x : Bfu) : (s.setBfu x).tcu = s.tcu := rfl
@[simp] theorem State.setBfu_ipu (s : State) (x : Bfu) : (s.setBfu x).ipu = s.ipu := rfl
@[simp] theorem State.setBfu_bfu (s : State) (x : Bfu) : (s.setBfu x).bfu = x := rfl
@[simp] theorem State.setBfu_ecu (s : State) (x : Bfu) : (s.setBfu x).ecu = s.ecu := rfl
@[simp] theorem State.setBfu_dsc (s : State) (x : Bfu) : (s.setBfu x).dsc = s.dsc := rfl
@[simp] theorem State.setBfu_ssv (s : State) (x : Bfu) : (s.setBfu x).ssv = s.ssv := rfl
@[simp] theorem State.setBfu_cvm (s : State) (x : Bfu) : (s.setBfu x).cvm = s.cvm := rfl
@[simp] theorem State.setBfu_ulk (s : State) (x : Bfu) : (s.setBfu x).ulk = s.ulk := rfl
@[simp] theorem State.setBfu_slk (s : State) (x : Bfu) : (s.setBfu x).slk = s.slk := rfl
@[simp] theorem State.setBfu_opt (s : State) (x : Bfu) : (s.setBfu x).opt = s.opt := rfl
@[simp] theorem State.setBfu_store (s : State) (x : Bfu) : (s.setBfu x).store = s.store := rfl
@[simp] theorem State.setBfu_mail (s : State) (x : Bfu) : (s.setBfu x).mail = s.mail := rfl
@[simp] theorem State.setBfu_exportPermit (s : State) (x : Bfu) : (s.setBfu x).exportPermit = s.exportPermit := rfl
@[simp] theorem State.setBfu_coverSwitch (s : State) (x : Bfu) : (s.setBfu x).coverSwitch = s.coverSwitch := rfl
@[simp] theorem State.setBfu_freeIndex (s : State) (x : Bfu) : (s.setBfu x).freeIndex = s.freeIndex := rfl
@[simp] theorem State.setBfu_pending (s : State) (x : Bfu) : (s.setBfu x).pending = s.pending := rfl
@[simp] theorem State.setEcu_mfp (s : State) (x : Ecu) : (s.setEcu x).mfp = s.mfp := rfl
@[simp] theorem State.setEcu_nau (s : State) (x : Ecu) : (s.setEcu x).nau = s.nau := rfl
@[simp] theorem State.setEcu_cck (s : State) (x : Ecu) : (s.setEcu x).cck = s.cck := rfl
@[simp] theorem State.setEcu_tcu (s : State) (x : Ecu) : (s.setEcu x).tcu = s.tcu := rfl
@[simp] theorem State.setEcu_ipu (s : State) (x : Ecu) : (s.setEcu x).ipu = s.ipu := rfl
@[simp] theorem State.setEcu_bfu (s : State) (x : Ecu) : (s.setEcu x).bfu = s.bfu := rfl
@[simp] theorem State.setEcu_ecu (s : State) (x : Ecu) : (s.setEcu x).ecu = x := rfl
@[simp] theorem State.setEcu_dsc (s : State) (x : Ecu) : (s.setEcu x).dsc = s.dsc := rfl
@[simp] theorem State.setEcu_ssv (s : State) (x : Ecu) : (s.setEcu x).ssv = s.ssv := rfl
@[simp] theorem State.setEcu_cvm (s : State) (x : Ecu) : (s.setEcu x).cvm = s.cvm := rfl
@[simp] theorem State.setEcu_ulk (s : State) (x : Ecu) : (s.setEcu x).ulk = s.ulk := rfl
@[simp] theorem State.setEcu_slk (s : State) (x : Ecu) : (s.setEcu x).slk = s.slk := rfl
@[simp] theorem State.setEcu_opt (s : State) (x : Ecu) : (s.setEcu x).opt = s.opt := rfl
@[simp] theorem State.setEcu_store (s : State) (x : Ecu) : (s.setEcu x).store = s.store := rfl
@[simp] theorem State.setEcu_mail (s : State) (x : Ecu) : (s.setEcu x).mail = s.mail := rfl
@[simp] theorem State.setEcu_exportPermit (s : State) (x : Ecu) : (s.setEcu x).exportPermit = s.exportPermit := rfl
@[simp] theorem State.setEcu_coverSwitch (s : State) (x : Ecu) : (s.setEcu x).coverSwitch = s.coverSwitch := rfl
@[simp] theorem State.setEcu_freeIndex (s : State) (x : Ecu) : (s.setEcu x).freeIndex = s.freeIndex := rfl
@[simp] theorem State.setEcu_pending (s : State) (x : Ecu) : (s.setEcu x).pending = s.pending := rfl
@[simp] theorem State.setDsc_mfp (s : State) (x : Dsc) : (s.setDsc x).mfp = s.mfp := rfl
@[simp] theorem State.setDsc_nau (s : State) (x : Dsc) : (s.setDsc x).nau = s.nau := rfl
@[simp] theorem State.setDsc_cck (s : State) (x : Dsc) : (s.setDsc x).cck = s.cck := rfl
@[simp] theorem State.setDsc_tcu (s : State) (x : Dsc) : (s.setDsc x).tcu = s.tcu := rfl
@[simp] theorem State.setDsc_ipu (s : State) (x : Dsc) : (s.setDsc x).ipu = s.ipu := rfl
@[simp] theorem State.setDsc_bfu (s : State) (x : Dsc) : (s.setDsc x).bfu = s.bfu := rfl
@[simp] theorem State.setDsc_ecu (s : State) (x : Dsc) : (s.setDsc x).ecu = s.ecu := rfl
@[simp] theorem State.setDsc_dsc (s : State) (x : Dsc) : (s.setDsc x).dsc = x := rfl
@[simp] theorem State.setDsc_ssv (s : State) (x : Dsc) : (s.setDsc x).ssv = s.ssv := rfl
@[simp] theorem State.setDsc_cvm (s : State) (x : Dsc) : (s.setDsc x).cvm = s.cvm := rfl
@[simp] theorem State.setDsc_ulk (s : State) (x : Dsc) : (s.setDsc x).ulk = s.ulk := rfl
@[simp] theorem State.setDsc_slk (s : State) (x : Dsc) : (s.setDsc x).slk = s.slk := rfl
@[simp] theorem State.setDsc_opt (s : State) (x : Dsc) : (s.setDsc x).opt = s.opt := rfl
@[simp] theorem State.setDsc_store (s : State) (x : Dsc) : (s.setDsc x).store = s.store := rfl
@[simp] theorem State.setDsc_mail (s : State) (x : Dsc) : (s.setDsc x).mail = s.mail := rfl
@[simp] theorem State.setDsc_exportPermit (s : State) (x : Dsc) : (s.setDsc x).exportPermit = s.exportPermit := rfl
@[simp] theorem State.setDsc_coverSwitch (s : State) (x : Dsc) : (s.setDsc x).coverSwitch = s.coverSwitch := rfl
@[simp] theorem State.setDsc_freeIndex (s : State) (x : Dsc) : (s.setDsc x).freeIndex = s.freeIndex := rfl
@[simp] theorem State.setDsc_pending (s : State) (x : Dsc) : (s.setDsc x).pending = s.pending := rfl
@[simp] theorem State.setSsv_mfp (s : State) (x : Ssv) : (s.setSsv x).mfp = s.mfp := rfl
@[simp] theorem State.setSsv_nau (s : State) (x : Ssv) : (s.setSsv x).nau = s.nau := rfl
@[simp] theorem State.setSsv_cck (s : State) (x : Ssv) : (s.setSsv x).cck = s.cck := rfl
@[simp] theorem State.setSsv_tcu (s : State) (x : Ssv) : (s.setSsv x).tcu = s.tcu := rfl
@[simp] theorem State.setSsv_ipu (s : State) (x : Ssv) : (s.setSsv x).ipu = s.ipu := rfl
@[simp] theorem State.setSsv_bfu (s : State) (x : Ssv) : (s.setSsv x).bfu = s.bfu := rfl
@[simp] theorem State.setSsv_ecu (s : State) (x : Ssv) : (s.setSsv x).ecu = s.ecu := rfl
@[simp] theorem State.setSsv_dsc (s : State) (x : Ssv) : (s.setSsv x).dsc = s.dsc := rfl
@[simp] theorem State.setSsv_ssv (s : State) (x : Ssv) : (s.setSsv x).ssv = x := rfl
@[simp] theorem State.setSsv_cvm (s : State) (x : Ssv) : (s.setSsv x).cvm = s.cvm := rfl
@[simp] theorem State.setSsv_ulk (s : State) (x : Ssv) : (s.setSsv x).ulk = s.ulk := rfl
@[simp] theorem State.setSsv_slk (s : State) (x : Ssv) : (s.setSsv x).slk = s.slk := rfl
@[simp] theorem State.setSsv_opt (s : State) (x : Ssv) : (s.setSsv x).opt = s.opt := rfl
@[simp] theorem State.setSsv_store (s : State) (x : Ssv) : (s.setSsv x).store = s.store := rfl
@[simp] theorem State.setSsv_mail (s : State) (x : Ssv) : (s.setSsv x).mail = s.mail := rfl
@[simp] theorem State.setSsv_exportPermit (s : State) (x : Ssv) : (s.setSsv x).exportPermit = s.exportPermit := rfl
@[simp] theorem State.setSsv_coverSwitch (s : State) (x : Ssv) : (s.setSsv x).coverSwitch = s.coverSwitch := rfl
@[simp] theorem State.setSsv_freeIndex (s : State) (x : Ssv) : (s.setSsv x).freeIndex = s.freeIndex := rfl
@[simp] theorem State.setSsv_pending (s : State) (x : Ssv) : (s.setSsv x).pending = s.pending := rfl
@[simp] theorem State.setCvm_mfp (s : State) (x : Cvm) : (s.setCvm x).mfp = s.mfp := rfl
@[simp] theorem State.setCvm_nau (s : State) (x : Cvm) : (s.setCvm x).nau = s.nau := rfl
@[simp] theorem State.setCvm_cck (s : State) (x : Cvm) : (s.setCvm x).cck = s.cck := rfl
@[simp] theorem State.setCvm_tcu (s : State) (x : Cvm) : (s.setCvm x).tcu = s.tcu := rfl
@[simp] theorem State.setCvm_ipu (s : State) (x : Cvm) : (s.setCvm x).ipu = s.ipu := rfl
@[simp] theorem State.setCvm_bfu (s : State) (x : Cvm) : (s.setCvm x).bfu = s.bfu := rfl
@[simp] theorem State.setCvm_ecu (s : State) (x : Cvm) : (s.setCvm x).ecu = s.ecu := rfl
@[simp] theorem State.setCvm_dsc (s : State) (x : Cvm) : (s.setCvm x).dsc = s.dsc := rfl
@[simp] theorem State.setCvm_ssv (s : State) (x : Cvm) : (s.setCvm x).ssv = s.ssv := rfl
@[simp] theorem State.setCvm_cvm (s : State) (x : Cvm) : (s.setCvm x).cvm = x := rfl
@[simp] theorem State.setCvm_ulk (s : State) (x : Cvm) : (s.setCvm x).ulk = s.ulk := rfl
@[simp] theorem State.setCvm_slk (s : State) (x : Cvm) : (s.setCvm x).slk = s.slk := rfl
@[simp] theorem State.setCvm_opt (s : State) (x : Cvm) : (s.setCvm x).opt = s.opt := rfl
@[simp] theorem State.setCvm_store (s : State) (x : Cvm) : (s.setCvm x).store = s.store := rfl
@[simp] theorem State.setCvm_mail (s : State) (x : Cvm) : (s.setCvm x).mail = s.mail := rfl
@[simp] theorem State.setCvm_exportPermit (s : State) (x : Cvm) : (s.setCvm x).exportPermit = s.exportPermit := rfl
@[simp] theorem State.setCvm_coverSwitch (s : State) (x : Cvm) : (s.setCvm x).coverSwitch = s.coverSwitch := rfl
@[simp] theorem State.setCvm_freeIndex (s : State) (x : Cvm) : (s.setCvm x).freeIndex = s.freeIndex := rfl
@[simp] theorem State.setCvm_pending (s : State) (x : Cvm) : (s.setCvm x).pending = s.pending := rfl
@[simp] theorem State.setUlk_mfp (s : State) (x : Port) : (s.setUlk x).mfp = s.mfp := rfl
@[simp] theorem State.setUlk_nau (s : State) (x : Port) : (s.setUlk x).nau = s.nau := rfl
@[simp] theorem State.setUlk_cck (s : State) (x : Port) : (s.setUlk x).cck = s.cck := rfl
@[simp] theorem State.setUlk_tcu (s : State) (x : Port) : (s.setUlk x).tcu = s.tcu := rfl
@[simp] theorem State.setUlk_ipu (s : State) (x : Port) : (s.setUlk x).ipu = s.ipu := rfl
@[simp] theorem State.setUlk_bfu (s : State) (x : Port) : (s.setUlk x).bfu = s.bfu := rfl
@[simp] theorem State.setUlk_ecu (s : State) (x : Port) : (s.setUlk x).ecu = s.ecu := rfl
@[simp] theorem State.setUlk_dsc (s : State) (x : Port) : (s.setUlk x).dsc = s.dsc := rfl
@[simp] theorem State.setUlk_ssv (s : State) (x : Port) : (s.setUlk x).ssv = s.ssv := rfl
@[simp] theorem State.setUlk_cvm (s : State) (x : Port) : (s.setUlk x).cvm = s.cvm := rfl
@[simp] theorem State.setUlk_ulk (s : State) (x : Port) : (s.setUlk x).ulk = x := rfl
@[simp] theorem State.setUlk_slk (s : State) (x : Port) : (s.setUlk x).slk = s.slk := rfl
@[simp] theorem State.setUlk_opt (s : State) (x : Port) : (s.setUlk x).opt = s.opt := rfl
@[simp] theorem State.setUlk_store (s : State) (x : Port) : (s.setUlk x).store = s.store := rfl
@[simp] theorem State.setUlk_mail (s : State) (x : Port) : (s.setUlk x).mail = s.mail := rfl
@[simp] theorem State.setUlk_exportPermit (s : State) (x : Port) : (s.setUlk x).exportPermit = s.exportPermit := rfl
@[simp] theorem State.setUlk_coverSwitch (s : State) (x : Port) : (s.setUlk x).coverSwitch = s.coverSwitch := rfl
@[simp] theorem State.setUlk_freeIndex (s : State) (x : Port) : (s.setUlk x).freeIndex = s.freeIndex := rfl
@[simp] theorem State.setUlk_pending (s : State) (x : Port) : (s.setUlk x).pending = s.pending := rfl
@[simp] theorem State.setSlk_mfp (s : State) (x : Port) : (s.setSlk x).mfp = s.mfp := rfl
@[simp] theorem State.setSlk_nau (s : State) (x : Port) : (s.setSlk x).nau = s.nau := rfl
@[simp] theorem State.setSlk_cck (s : State) (x : Port) : (s.setSlk x).cck = s.cck := rfl
@[simp] theorem State.setSlk_tcu (s : State) (x : Port) : (s.setSlk x).tcu = s.tcu := rfl
@[simp] theorem State.setSlk_ipu (s : State) (x : Port) : (s.setSlk x).ipu = s.ipu := rfl
@[simp] theorem State.setSlk_bfu (s : State) (x : Port) : (s.setSlk x).bfu = s.bfu := rfl
@[simp] theorem State.setSlk_ecu (s : State) (x : Port) : (s.setSlk x).ecu = s.ecu := rfl
@[simp] theorem State.setSlk_dsc (s : State) (x : Port) : (s.setSlk x).dsc = s.dsc := rfl
@[simp] theorem State.setSlk_ssv (s : State) (x : Port) : (s.setSlk x).ssv = s.ssv := rfl
@[simp] theorem State.setSlk_cvm (s : State) (x : Port) : (s.setSlk x).cvm = s.cvm := rfl
@[simp] theorem State.setSlk_ulk (s : State) (x : Port) : (s.setSlk x).ulk = s.ulk := rfl
@[simp] theorem State.setSlk_slk (s : State) (x : Port) : (s.setSlk x).slk = x := rfl
@[simp] theorem State.setSlk_opt (s : State) (x : Port) : (s.setSlk x).opt = s.opt := rfl
@[simp] theorem State.setSlk_store (s : State) (x : Port) : (s.setSlk x).store = s.store := rfl
@[simp] theorem State.setSlk_mail (s : State) (x : Port) : (s.setSlk x).mail = s.mail := rfl
@[simp] theorem State.setSlk_exportPermit (s : State) (x : Port) : (s.setSlk x).exportPermit = s.exportPermit := rfl
@[simp] theorem State.setSlk_coverSwitch (s : State) (x : Port) : (s.setSlk x).coverSwitch = s.coverSwitch := rfl
@[simp] theorem State.setSlk_freeIndex (s : State) (x : Port) : (s.setSlk x).freeIndex = s.freeIndex := rfl
@[simp] theorem State.setSlk_pending (s : State) (x : Port) : (s.setSlk x).pending = s.pending := rfl
@[simp] theorem State.setOpt_mfp (s : State) (x : Port) : (s.setOpt x).mfp = s.mfp := rfl
@[simp] theorem State.setOpt_nau (s : State) (x : Port) : (s.setOpt x).nau = s.nau := rfl
@[simp] theorem State.setOpt_cck (s : State) (x : Port) : (s.setOpt x).cck = s.cck := rfl
@[simp] theorem State.setOpt_tcu (s : State) (x : Port) : (s.setOpt x).tcu = s.tcu := rfl
@[simp] theorem State.setOpt_ipu (s : State) (x : Port) : (s.setOpt x).ipu = s.ipu := rfl
@[simp] theorem State.setOpt_bfu (s : State) (x : Port) : (s.setOpt x).bfu = s.bfu := rfl
@[simp] theorem State.setOpt_ecu (s : State) (x : Port) : (s.setOpt x).ecu = s.ecu := rfl
@[simp] theorem State.setOpt_dsc (s : State) (x : Port) : (s.setOpt x).dsc = s.dsc := rfl
@[simp] theorem State.setOpt_ssv (s : State) (x : Port) : (s.setOpt x).ssv = s.ssv := rfl
@[simp] theorem State.setOpt_cvm (s : State) (x : Port) : (s.setOpt x).cvm = s.cvm := rfl
@[simp] theorem State.setOpt_ulk (s : State) (x : Port) : (s.setOpt x).ulk = s.ulk := rfl
@[simp] theorem State.setOpt_slk (s : State) (x : Port) : (s.setOpt x).slk = s.slk := rfl
@[simp] theorem State.setOpt_opt (s : State) (x : Port) : (s.setOpt x).opt = x := rfl
@[simp] theorem State.setOpt_store (s : State) (x : Port) : (s.setOpt x).store = s.store := rfl
@[simp] theorem State.setOpt_mail (s : State) (x : Port) : (s.setOpt x).mail = s.mail := rfl
@[simp] theorem State.setOpt_exportPermit (s : State) (x : Port) : (s.setOpt x).exportPermit = s.exportPermit := rfl
@[simp] theorem State.setOpt_coverSwitch (s : State) (x : Port) : (s.setOpt x).coverSwitch = s.coverSwitch := rfl
@[simp] theorem State.setOpt_freeIndex (s : State) (x : Port) : (s.setOpt x).freeIndex = s.freeIndex := rfl
@[simp] theorem State.setOpt_pending (s : State) (x : Port) : (s.setOpt x).pending = s.pending := rfl
@[simp] theorem State.setStore_mfp (s : State) (x : Store) : (s.setStore x).mfp = s.mfp := rfl
@[simp] theorem State.setStore_nau (s : State) (x : Store) : (s.setStore x).nau = s.nau := rfl
@[simp] theorem State.setStore_cck (s : State) (x : Store) : (s.setStore x).cck = s.cck := rfl
@[simp] theorem State.setStore_tcu (s : State) (x : Store) : (s.setStore x).tcu = s.tcu := rfl
@[simp] theorem State.setStore_ipu (s : State) (x : Store) : (s.setStore x).ipu = s.ipu := rfl
@[simp] theorem State.setStore_bfu (s : State) (x : Store) : (s.setStore x).bfu = s.bfu := rfl
@[simp] theorem State.setStore_ecu (s : State) (x : Store) : (s.setStore x).ecu = s.ecu := rfl
@[simp] theorem State.setStore_dsc (s : State) (x : Store) : (s.setStore x).dsc = s.dsc := rfl
@[simp] theorem State.setStore_ssv (s : State) (x : Store) : (s.setStore x).ssv = s.ssv := rfl
@[simp] theorem State.setStore_cvm (s : State) (x : Store) : (s.setStore x).cvm = s.cvm := rfl
@[simp] theorem State.setStore_ulk (s : State) (x : Store) : (s.setStore x).ulk = s.ulk := rfl
@[simp] theorem State.setStore_slk (s : State) (x : Store) : (s.setStore x).slk = s.slk := rfl
@[simp] theorem State.setStore_opt (s : State) (x : Store) : (s.setStore x).opt = s.opt := rfl
@[simp] theorem State.setStore_store (s : State) (x : Store) : (s.setStore x).store = x := rfl
@[simp] theorem State.setStore_mail (s : State) (x : Store) : (s.setStore x).mail = s.mail := rfl
@[simp] theorem State.setStore_exportPermit (s : State) (x : Store) : (s.setStore x).exportPermit = s.exportPermit := rfl
@[simp] theorem State.setStore_coverSwitch (s : State) (x : Store) : (s.setStore x).coverSwitch = s.coverSwitch := rfl
@[simp] theorem State.setStore_freeIndex (s : State) (x : Store) : (s.setStore x).freeIndex = s.freeIndex := rfl
@[simp] theorem State.setStore_pending (s : State) (x : Store) : (s.setStore x).pending = s.pending := rfl
@[simp] theorem State.setMail_mfp (s : State) (x : Mail) : (s.setMail x).mfp = s.mfp := rfl
@[simp] theorem State.setMail_nau (s : State) (x : Mail) : (s.setMail x).nau = s.nau := rfl
@[simp] theorem State.setMail_cck (s : State) (x : Mail) : (s.setMail x).cck = s.cck := rfl
@[simp] theorem State.setMail_tcu (s : State) (x : Mail) : (s.setMail x).tcu = s.tcu := rfl
@[simp] theorem State.setMail_ipu (s : State) (x : Mail) : (s.setMail x).ipu = s.ipu := rfl
@[simp] theorem State.setMail_bfu (s : State) (x : Mail) : (s.setMail x).bfu = s.bfu := rfl
@[simp] theorem State.setMail_ecu (s : State) (x : Mail) : (s.setMail x).ecu = s.ecu := rfl
@[simp] theorem State.setMail_dsc (s : State) (x : Mail) : (s.setMail x).dsc = s.dsc := rfl
@[simp] theorem State.setMail_ssv (s : State) (x : Mail) : (s.setMail x).ssv = s.ssv := rfl
@[simp] theorem State.setMail_cvm (s : State) (x : Mail) : (s.setMail x).cvm = s.cvm := rfl
@[simp] theorem State.setMail_ulk (s : State) (x : Mail) : (s.setMail x).ulk = s.ulk := rfl
@[simp] theorem State.setMail_slk (s : State) (x : Mail) : (s.setMail x).slk = s.slk := rfl
@[simp] theorem State.setMail_opt (s : State) (x : Mail) : (s.setMail x).opt = s.opt := rfl
@[simp] theorem State.setMail_store (s : State) (x : Mail) : (s.setMail x).store = s.store := rfl
@[simp] theorem State.setMail_mail (s : State) (x : Mail) : (s.setMail x).mail = x := rfl
@[simp] theorem State.setMail_exportPermit (s : State) (x : Mail) : (s.setMail x).exportPermit = s.exportPermit := rfl
@[simp] theorem State.setMail_coverSwitch (s : State) (x : Mail) : (s.setMail x).coverSwitch = s.coverSwitch := rfl
@[simp] theorem State.setMail_freeIndex (s : State) (x : Mail) : (s.setMail x).freeIndex = s.freeIndex := rfl
@[simp] theorem State.setMail_pending (s : State) (x : Mail) : (s.setMail x).pending = s.pending := rfl
@[simp] theorem State.setExportPermit_mfp (s : State) (x : Bool) : (s.setExportPermit x).mfp = s.mfp := rfl
@[simp] theorem State.setExportPermit_nau (s : State) (x : Bool) : (s.setExportPermit x).nau = s.nau := rfl
@[simp] theorem State.setExportPermit_cck (s : State) (x : Bool) : (s.setExportPermit x).cck = s.cck := rfl
@[simp] theorem State.setExportPermit_tcu (s : State) (x : Bool) : (s.setExportPermit x).tcu = s.tcu := rfl
@[simp] theorem State.setExportPermit_ipu (s : State) (x : Bool) : (s.setExportPermit x).ipu = s.ipu := rfl
@[simp] theorem State.setExportPermit_bfu (s : State) (x : Bool) : (s.setExportPermit x).bfu = s.bfu := rfl
@[simp] theorem State.setExportPermit_ecu (s : State) (x : Bool) : (s.setExportPermit x).ecu = s.ecu := rfl
@[simp] theorem State.setExportPermit_dsc (s : State) (x : Bool) : (s.setExportPermit x).dsc = s.dsc := rfl
@[simp] theorem State.setExportPermit_ssv (s : State) (x : Bool) : (s.setExportPermit x).ssv = s.ssv := rfl
@[simp] theorem State.setExportPermit_cvm (s : State) (x : Bool) : (s.setExportPermit x).cvm = s.cvm := rfl
@[simp] theorem State.setExportPermit_ulk (s : State) (x : Bool) : (s.setExportPermit x).ulk = s.ulk := rfl
@[simp] theorem State.setExportPermit_slk (s : State) (x : Bool) : (s.setExportPermit x).slk = s.slk := rfl
@[simp] theorem State.setExportPermit_opt (s : State) (x : Bool) : (s.setExportPermit x).opt = s.opt := rfl
@[simp] theorem State.setExportPermit_store (s : State) (x : Bool) : (s.setExportPermit x).store = s.store := rfl
@[simp] theorem State.setExportPermit_mail (s : State) (x : Bool) : (s.setExportPermit x).mail = s.mail := rfl
@[simp] theorem State.setExportPermit_exportPermit (s : State) (x : Bool) : (s.setExportPermit x).exportPermit = x := rfl
@[simp] theorem State.setExportPermit_coverSwitch (s : State) (x : Bool) : (s.setExportPermit x).coverSwitch = s.coverSwitch := rfl
@[simp] theorem State.setExportPermit_freeIndex (s : State) (x : Bool) : (s.setExportPermit x).freeIndex = s.freeIndex := rfl
@[simp] theorem State.setExportPermit_pending (s : State) (x : Bool) : (s.setExportPermit x).pending = s.pending := rfl
@[simp] theorem State.setCoverSwitch_mfp (s : State) (x : Cover) : (s.setCoverSwitch x).mfp = s.mfp := rfl
@[simp] theorem State.setCoverSwitch_nau (s : State) (x : Cover) : (s.setCoverSwitch x).nau = s.nau := rfl
@[simp] theorem State.setCoverSwitch_cck (s : State) (x : Cover) : (s.setCoverSwitch x).cck = s.cck := rfl
@[simp] theorem State.setCoverSwitch_tcu (s : State) (x : Cover) : (s.setCoverSwitch x).tcu = s.tcu := rfl
@[simp] theorem State.setCoverSwitch_ipu (s : State) (x : Cover) : (s.setCoverSwitch x).ipu = s.ipu := rfl
@[simp] theorem State.setCoverSwitch_bfu (s : State) (x : Cover) : (s.setCoverSwitch x).bfu = s.bfu := rfl
@[simp] theorem State.setCoverSwitch_ecu (s : State) (x : Cover) : (s.setCoverSwitch x).ecu = s.ecu := rfl
@[simp] theorem State.setCoverSwitch_dsc (s : State) (x : Cover) : (s.setCoverSwitch x).dsc = s.dsc := rfl
@[simp] theorem State.setCoverSwitch_ssv (s : State) (x : Cover) : (s.setCoverSwitch x).ssv = s.ssv := rfl
@[simp] theorem State.setCoverSwitch_cvm (s : State) (x : Cover) : (s.setCoverSwitch x).cvm = s.cvm := rfl
@[simp] theorem State.setCoverSwitch_ulk (s : State) (x : Cover) : (s.setCoverSwitch x).ulk = s.ulk := rfl
@[simp] theorem State.setCoverSwitch_slk (s : State) (x : Cover) : (s.setCoverSwitch x).slk = s.slk := rfl
@[simp] theorem State.setCoverSwitch_opt (s : State) (x : Cover) : (s.setCoverSwitch x).opt = s.opt := rfl
@[simp] theorem State.setCoverSwitch_store (s : State) (x : Cover) : (s.setCoverSwitch x).store = s.store := rfl
@[simp] theorem State.setCoverSwitch_mail (s : State) (x : Cover) : (s.setCoverSwitch x).mail = s.mail := rfl
@[simp] theorem State.setCoverSwitch_exportPermit (s : State) (x : Cover) : (s.setCoverSwitch x).exportPermit = s.exportPermit := rfl
@[simp] theorem State.setCoverSwitch_coverSwitch (s : State) (x : Cover) : (s.setCoverSwitch x).coverSwitch = x := rfl
@[simp] theorem State.setCoverSwitch_freeIndex (s : State) (x : Cover) : (s.setCoverSwitch x).freeIndex = s.freeIndex := rfl
@[simp] theorem State.setCoverSwitch_pending (s : State) (x : Cover) : (s.setCoverSwitch x).pending = s.pending := rfl
@[simp] theorem State.setFreeIndex_mfp (s : State) (x : Nat) : (s.setFreeIndex x).mfp = s.mfp := rfl
@[simp] theorem State.setFreeIndex_nau (s : State) (x : Nat) : (s.setFreeIndex x).nau = s.nau := rfl
@[simp] theorem State.setFreeIndex_cck (s : State) (x : Nat) : (s.setFreeIndex x).cck = s.cck := rfl
@[simp] theorem State.setFreeIndex_tcu (s : State) (x : Nat) : (s.setFreeIndex x).tcu = s.tcu := rfl
@[simp] theorem State.setFreeIndex_ipu (s : State) (x : Nat) : (s.setFreeIndex x).ipu = s.ipu := rfl
@[simp] theorem State.setFreeIndex_bfu (s : State) (x : Nat) : (s.setFreeIndex x).bfu = s.bfu := rfl
@[simp] theorem State.setFreeIndex_ecu (s : State) (x : Nat) : (s.setFreeIndex x).ecu = s.ecu := rfl
@[simp] theorem State.setFreeIndex_dsc (s : State) (x : Nat) : (s.setFreeIndex x).dsc = s.dsc := rfl
@[simp] theorem State.setFreeIndex_ssv (s : State) (x : Nat) : (s.setFreeIndex x).ssv = s.ssv := rfl
@[simp] theorem State.setFreeIndex_cvm (s : State) (x : Nat) : (s.setFreeIndex x).cvm = s.cvm := rfl
@[simp] theorem State.setFreeIndex_ulk (s : State) (x : Nat) : (s.setFreeIndex x).ulk = s.ulk := rfl
@[simp] theorem State.setFreeIndex_slk (s : State) (x : Nat) : (s.setFreeIndex x).slk = s.slk := rfl
@[simp] theorem State.setFreeIndex_opt (s : State) (x : Nat) : (s.setFreeIndex x).opt = s.opt := rfl
@[simp] theorem State.setFreeIndex_store (s : State) (x : Nat) : (s.setFreeIndex x).store = s.store := rfl
@[simp] theorem State.setFreeIndex_mail (s : State) (x : Nat) : (s.setFreeIndex x).mail = s.mail := rfl
@[simp] theorem State.setFreeIndex_exportPermit (s : State) (x : Nat) : (s.setFreeIndex x).exportPermit = s.exportPermit := rfl
@[simp] theorem State.setFreeIndex_coverSwitch (s : State) (x : Nat) : (s.setFreeIndex x).coverSwitch = s.coverSwitch := rfl
@[simp] theorem State.setFreeIndex_freeIndex (s : State) (x : Nat) : (s.setFreeIndex x).freeIndex = x := rfl
@[simp] theorem State.setFreeIndex_pending (s : State) (x : Nat) : (s.setFreeIndex x).pending = s.pending := rfl
@[simp] theorem State.setPending_mfp (s : State) (x : List Instr) : (s.setPending x).mfp = s.mfp := rfl
@[simp] theorem State.setPending_nau (s : State) (x : List Instr) : (s.setPending x).nau = s.nau := rfl
@[simp] theorem State.setPending_cck (s : State) (x : List Instr) : (s.setPending x).cck = s.cck := rfl
@[simp] theorem State.setPending_tcu (s : State) (x : List Instr) : (s.setPending x).tcu = s.tcu := rfl
@[simp] theorem State.setPending_ipu (s : State) (x : List Instr) : (s.setPending x).ipu = s.ipu := rfl
@[simp] theorem State.setPending_bfu (s : State) (x : List Instr) : (s.setPending x).bfu = s.bfu := rfl
@[simp] theorem State.setPending_ecu (s : State) (x : List Instr) : (s.setPending x).ecu = s.ecu := rfl
@[simp] theorem State.setPending_dsc (s : State) (x : List Instr) : (s.setPending x).dsc = s.dsc := rfl
@[simp] theorem State.setPending_ssv (s : State) (x : List Instr) : (s.setPending x).ssv = s.ssv := rfl
@[simp] theorem State.setPending_cvm (s : State) (x : List Instr) : (s.setPending x).cvm = s.cvm := rfl
@[simp] theorem State.setPending_ulk (s : State) (x : List Instr) : (s.setPending x).ulk = s.ulk := rfl
@[simp] theorem State.setPending_slk (s : State) (x : List Instr) : (s.setPending x).slk = s.slk := rfl
@[simp] theorem State.setPending_opt (s : State) (x : List Instr) : (s.setPending x).opt = s.opt := rfl
@[simp] theorem State.setPending_store (s : State) (x : List Instr) : (s.setPending x).store = s.store := rfl
@[simp] theorem State.setPending_mail (s : State) (x : List Instr) : (s.setPending x).mail = s.mail := rfl
@[simp] theorem State.setPending_exportPermit (s : State) (x : List Instr) : (s.setPending x).exportPermit = s.exportPermit := rfl
@[simp] theorem State.setPending_coverSwitch (s : State) (x : List Instr) : (s.setPending x).coverSwitch = s.coverSwitch := rfl
@[simp] theorem State.setPending_freeIndex (s : State) (x : List Instr) : (s.setPending x).freeIndex = s.freeIndex := rfl
@[simp] theorem State.setPending_pending (s : State) (x : List Instr) : (s.setPending x).pending = x := rfl

end Sys2Proof.Machine
end

