-- ==== Sys2Proof/Laws/Array.lean ====
section
/-! SUPPORT. The canonical form of the array: each operation on a region, and each operation on the array, keeps it. -/

namespace Sys2Proof.Machine

/-! ## The pending RESTART (R186) -/

/-- The pending RESTART's image is reported complete exactly when a good report that names that RESTART is on its way. -/
theorem State.restartReported_iff (s : State) :
    s.restartReported = true ↔ ∃ o, s.ssv.commanded = some o ∧ .commandedImage o true ∈ s.mail.ssv := by
  unfold State.restartReported
  cases s.ssv.commanded <;> simp

/-- In that time no operation completes. -/
theorem execOperationCompletion_reported (s : State) (r : ArrayResult) (h : s.restartReported = true) :
    execOperationCompletion r s = .next s := by
  unfold execOperationCompletion
  rw [if_pos h]

/-- At any other time the operation in flight completes. -/
theorem execOperationCompletion_inFlight (s : State) (r : ArrayResult) (x : InFlight) (h : s.restartReported = false)
    (hx : s.dsc.inFlight = some x) : execOperationCompletion r s = .next (s.completeOperation x r) := by
  unfold execOperationCompletion
  rw [if_neg (by simp [h]), hx]

/-! ## Grants in START (R188) -/

/-- In START no append is granted, and no erase-ahead but BFU's in the write step. -/
theorem State.grantable_start (s : State) (r : StoreRequest) (hs : s.ssv.supply = .start)
    (h : s.grantable r = true) : r.client.runsInService s.ssv.writeStep = false := by
  unfold State.grantable at h
  rw [hs] at h
  simp only [Bool.and_eq_true, Bool.not_eq_true'] at h
  exact h.1

/-! ## Regions -/

theorem Region.wf_tail {α : Type} {a : Nat × Written α} {r : Region α} (h : Region.wf (a :: r) = true) :
    Region.wf r = true := by
  cases r with
  | nil => rfl
  | cons b t =>
    unfold Region.wf at h
    exact (Bool.and_eq_true _ _ ▸ h).2

/-- In canonical form the first key is below every other. -/
theorem Region.wf_head_lt {α : Type} {a : Nat × Written α} {r : Region α} (h : Region.wf (a :: r) = true) :
    ∀ e ∈ r, a.1 < e.1 := by
  induction r generalizing a with
  | nil => intro e he; cases he
  | cons b t ih =>
    have hlt : a.1 < b.1 := by
      unfold Region.wf at h
      exact of_decide_eq_true (Bool.and_eq_true _ _ ▸ h).1
    intro e he
    rcases List.mem_cons.mp he with rfl | he
    · exact hlt
    · exact Nat.lt_trans hlt (ih (Region.wf_tail h) e he)

theorem Region.wf_cons {α : Type} {a : Nat × Written α} {r : Region α} (hr : Region.wf r = true)
    (ha : ∀ e ∈ r, a.1 < e.1) : Region.wf (a :: r) = true := by
  cases r with
  | nil => rfl
  | cons b t =>
    unfold Region.wf
    rw [hr, decide_eq_true (ha b (List.mem_cons_self ..))]
    rfl

/-- Every entry of a region after a write is the one written or was there before. -/
theorem Region.mem_put {α : Type} {r : Region α} {n : Nat} {w : Written α} {e : Nat × Written α}
    (h : e ∈ Region.put r n w) : e = (n, w) ∨ e ∈ r := by
  induction r with
  | nil => exact Or.inl (List.mem_singleton.mp h)
  | cons b t ih =>
    obtain ⟨k, v⟩ := b
    unfold Region.put at h
    split at h
    · rcases List.mem_cons.mp h with h | h
      · exact Or.inl h
      · exact Or.inr h
    · split at h
      · rcases List.mem_cons.mp h with h | h
        · exact Or.inl h
        · exact Or.inr (List.mem_cons_of_mem _ h)
      · rcases List.mem_cons.mp h with h | h
        · exact Or.inr (h ▸ List.mem_cons_self ..)
        · rcases ih h with h | h
          · exact Or.inl h
          · exact Or.inr (List.mem_cons_of_mem _ h)

theorem Region.put_wf {α : Type} {r : Region α} (n : Nat) (w : Written α) (h : Region.wf r = true) :
    Region.wf (Region.put r n w) = true := by
  induction r with
  | nil => rfl
  | cons b t ih =>
    obtain ⟨k, v⟩ := b
    have hk := Region.wf_head_lt h
    have ht := Region.wf_tail h
    unfold Region.put
    split
    · next hlt =>
      refine Region.wf_cons h fun e he => ?_
      rcases List.mem_cons.mp he with rfl | he
      · exact hlt
      · exact Nat.lt_trans hlt (hk e he)
    · split
      · next heq => exact Region.wf_cons ht fun e he => heq ▸ hk e he
      · next hge hne =>
        refine Region.wf_cons (ih ht) fun e he => ?_
        rcases Region.mem_put he with rfl | he
        · show k < n; omega
        · exact hk e he

/-- Reading a slot after a write of it, or of another. -/
theorem Region.lookup_put {α : Type} (r : Region α) (n k : Nat) (w : Written α) :
    Region.lookup (Region.put r n w) k = if k = n then some w else Region.lookup r k := by
  induction r with
  | nil =>
    show (if n = k then some w else none) = if k = n then some w else none
    by_cases h : n = k
    · rw [if_pos h, if_pos h.symm]
    · rw [if_neg h, if_neg fun e => h e.symm]
  | cons b t ih =>
    obtain ⟨j, v⟩ := b
    unfold Region.put
    split
    · by_cases h : n = k
      · rw [Region.lookup, if_pos h, if_pos h.symm]
      · rw [Region.lookup, if_neg h, if_neg fun e => h e.symm]
    · split
      · next hnj =>
        subst hnj
        by_cases h : n = k
        · rw [Region.lookup, if_pos h, if_pos h.symm]
        · rw [Region.lookup, if_neg h, if_neg fun e => h e.symm, Region.lookup, if_neg h]
      · next hne =>
        rw [Region.lookup, Region.lookup, ih]
        by_cases h : j = k
        · subst h; rw [if_pos rfl, if_pos rfl, if_neg fun e => hne e.symm]
        · rw [if_neg h, if_neg h]

/-- A region of which some entries are left, each at its own slot, keeps the canonical form. -/
theorem Region.filterMap_wf {α : Type} {r : Region α} (f : Nat × Written α → Option (Nat × Written α))
    (hf : ∀ e x, f e = some x → x.1 = e.1) (h : Region.wf r = true) : Region.wf (r.filterMap f) = true := by
  induction r with
  | nil => rfl
  | cons b t ih =>
    have hlt := Region.wf_head_lt h
    have ht := ih (Region.wf_tail h)
    rw [List.filterMap_cons]
    cases hb : f b with
    | none => exact ht
    | some x =>
      refine Region.wf_cons ht fun e he => ?_
      obtain ⟨y, hy, hye⟩ := List.mem_filterMap.mp he
      rw [hf b x hb, hf y e hye]
      exact hlt y hy

theorem Region.filter_wf {α : Type} {r : Region α} (p : Nat × Written α → Bool) (h : Region.wf r = true) :
    Region.wf (r.filter p) = true := by
  induction r with
  | nil => rfl
  | cons b t ih =>
    have hlt := Region.wf_head_lt h
    have ht := ih (Region.wf_tail h)
    by_cases hb : p b = true
    · rw [List.filter_cons_of_pos hb]
      exact Region.wf_cons ht fun e he => hlt e ((List.mem_filter.mp he).1)
    · rw [List.filter_cons_of_neg hb]
      exact ht

theorem Region.eraseRange_wf {α : Type} {r : Region α} (lo hi : Nat) (h : Region.wf r = true) :
    Region.wf (r.eraseRange lo hi) = true := Region.filter_wf _ h

theorem Region.eraseCut_wf {α : Type} {r : Region α} (n lo hi : Nat) (h : Region.wf r = true) :
    Region.wf (r.eraseCut n lo hi) = true := by
  refine Region.filterMap_wf _ (fun e x hx => ?_) h
  split at hx
  · obtain ⟨w, _, rfl⟩ := Option.map_eq_some_iff.mp hx
    rfl
  · exact (Option.some.inj hx) ▸ rfl

theorem Region.tear_wf {α : Type} {r : Region α} (n : Nat) (h : Region.wf r = true) :
    Region.wf (r.tear n) = true := by
  unfold Region.tear
  split
  · exact Region.put_wf n _ h
  · exact h

theorem Region.program_wf {α : Type} {r q : Region α} {n : Nat} {f : Option (Written α) → Option (Written α)}
    (hp : r.program n f = some q) (h : Region.wf r = true) : Region.wf q = true := by
  obtain ⟨w, _, rfl⟩ := Option.map_eq_some_iff.mp hp
  exact Region.put_wf n w h

/-! ## The array -/

theorem Store.wf_iff (st : Store) :
    st.wf = true ↔ Region.wf st.marks = true ∧ Region.wf st.config = true ∧ Region.wf st.frozen = true
      ∧ Region.wf st.images = true ∧ Region.wf st.profile = true := by
  unfold Store.wf
  simp only [Bool.and_eq_true, and_assoc]

/-- A calendar sector is no part of the canonical form. -/
theorem Store.setCalendar_wf {st : Store} (sector : Nat) (c : CalendarSector) (h : st.wf = true) :
    (st.setCalendar sector c).wf = true := by
  unfold Store.setCalendar
  split <;> exact h

theorem Store.erase_wf {st : Store} (sector : Nat) (h : st.wf = true) : (st.erase sector).wf = true := by
  obtain ⟨hm, hc, hf, hi, hp⟩ := (Store.wf_iff st).mp h
  unfold Store.erase
  split
  · exact (Store.wf_iff _).mpr ⟨hm, Region.eraseRange_wf _ _ hc, hf, hi, hp⟩
  split
  · exact Store.setCalendar_wf _ _ h
  split
  · exact (Store.wf_iff _).mpr ⟨hm, hc, Region.eraseRange_wf _ _ hf, hi, hp⟩
  split
  · exact (Store.wf_iff _).mpr ⟨hm, hc, hf, Region.eraseRange_wf _ _ hi, hp⟩
  split
  · exact (Store.wf_iff _).mpr ⟨hm, hc, hf, hi, Region.eraseRange_wf _ _ hp⟩
  · exact h

theorem Store.eraseCut_wf {st : Store} (n sector : Nat) (h : st.wf = true) : (st.eraseCut n sector).wf = true := by
  obtain ⟨hm, hc, hf, hi, hp⟩ := (Store.wf_iff st).mp h
  unfold Store.eraseCut
  split
  · exact (Store.wf_iff _).mpr ⟨hm, Region.eraseCut_wf _ _ _ hc, hf, hi, hp⟩
  split
  · exact Store.setCalendar_wf _ _ h
  split
  · exact (Store.wf_iff _).mpr ⟨hm, hc, Region.eraseCut_wf _ _ _ hf, hi, hp⟩
  split
  · exact (Store.wf_iff _).mpr ⟨hm, hc, hf, Region.eraseCut_wf _ _ _ hi, hp⟩
  split
  · exact (Store.wf_iff _).mpr ⟨hm, hc, hf, hi, Region.eraseCut_wf _ _ _ hp⟩
  · exact h

theorem Store.tear_wf {st : Store} (p : Program) (h : st.wf = true) : (st.tear p).wf = true := by
  obtain ⟨hm, hc, hf, hi, hp⟩ := (Store.wf_iff st).mp h
  cases p
  case configBody | configMarker => exact (Store.wf_iff _).mpr ⟨hm, Region.tear_wf _ hc, hf, hi, hp⟩
  case calendarBody | calendarMarker | activationMark => exact Store.setCalendar_wf _ _ h
  case frozenBody | frozenMarker => exact (Store.wf_iff _).mpr ⟨hm, hc, Region.tear_wf _ hf, hi, hp⟩
  case imagePage | imageMarker => exact (Store.wf_iff _).mpr ⟨hm, hc, hf, Region.tear_wf _ hi, hp⟩
  case intervalRecord => exact (Store.wf_iff _).mpr ⟨hm, hc, hf, hi, Region.tear_wf _ hp⟩
  case lifecycleBody | lifecycleMarker => exact (Store.wf_iff _).mpr ⟨Region.tear_wf _ hm, hc, hf, hi, hp⟩

/-- A program that verifies keeps the canonical form. -/
theorem Store.program_wf {st q : Store} {p : Program} (hq : st.program p = some q) (h : st.wf = true) :
    q.wf = true := by
  obtain ⟨hm, hc, hf, hi, hp⟩ := (Store.wf_iff st).mp h
  cases p <;> obtain ⟨r, hr, rfl⟩ := Option.map_eq_some_iff.mp hq
  case configBody | configMarker => exact (Store.wf_iff _).mpr ⟨hm, Region.program_wf hr hc, hf, hi, hp⟩
  case calendarBody | calendarMarker | activationMark => exact Store.setCalendar_wf _ _ h
  case frozenBody | frozenMarker => exact (Store.wf_iff _).mpr ⟨hm, hc, Region.program_wf hr hf, hi, hp⟩
  case imagePage | imageMarker => exact (Store.wf_iff _).mpr ⟨hm, hc, hf, Region.program_wf hr hi, hp⟩
  case intervalRecord => exact (Store.wf_iff _).mpr ⟨hm, hc, hf, hi, Region.program_wf hr hp⟩
  case lifecycleBody | lifecycleMarker => exact (Store.wf_iff _).mpr ⟨Region.program_wf hr hm, hc, hf, hi, hp⟩

/-- A read keeps the canonical form. -/
theorem Store.readBack_wf {st : Store} (op : ArrayOp) (r : ArrayResult) (h : st.wf = true) :
    (st.readBack op r).wf = true := by
  obtain ⟨hm, hc, hf, hi, hp⟩ := (Store.wf_iff st).mp h
  unfold Store.readBack
  split
  · split
    · exact (Store.wf_iff _).mpr ⟨hm, hc, Region.put_wf _ _ hf, hi, hp⟩
    · exact h
  · exact h

/-- An interrupted operation keeps the canonical form, whatever it left. -/
theorem Store.cut_wf {st : Store} (n : Nat) (op : ArrayOp) (h : st.wf = true) : (st.cut n op).wf = true := by
  cases op with
  | program p =>
    unfold Store.cut
    cases Config.remnant n 0 with
    | untouched => exact h
    | torn => exact Store.tear_wf p h
    | finished =>
      show ((st.program p).getD st).wf = true
      cases hp : st.program p with
      | none => exact h
      | some q => exact Store.program_wf hp h
  | erase sector => exact Store.eraseCut_wf n sector h
  | readRecords => exact h
  | readFrozen => exact h

end Sys2Proof.Machine
end

