-- ==== Sys2Proof/Laws/Clock.lean ====
section
/-! SUPPORT. CCK's due slots and messages: reading back what was put, and all that the test of a slot, arming, a change
notice and a change of time can do. -/

namespace Sys2Proof.Machine

@[simp] theorem DueSlots.get_put (d : DueSlots) (o : Owner) (t : Option Nat) : (d.put o t).get o = t := by cases o <;> rfl

theorem DueSlots.get_put_other (d : DueSlots) {o q : Owner} (t : Option Nat) (h : q ≠ o) : (d.put o t).get q = d.get q := by
  cases o <;> cases q <;> first | rfl | exact absurd rfl h

@[simp] theorem DueSlots.put_get (d : DueSlots) (o : Owner) : d.put o (d.get o) = d := by cases o <;> rfl

@[simp] theorem DueSlots.put_put (d : DueSlots) (o : Owner) (a b : Option Nat) : (d.put o a).put o b = d.put o b := by
  cases o <;> rfl

@[simp] theorem Mail.clock_putClock (m : Mail) (o : Owner) (l : List ClockMail) : (m.putClock o l).clock o = l := by
  cases o <;> rfl

theorem Mail.clock_putClock_other (m : Mail) {o q : Owner} (l : List ClockMail) (h : q ≠ o) :
    (m.putClock o l).clock q = m.clock q := by
  cases o <;> cases q <;> first | rfl | exact absurd rfl h

@[simp] theorem Mail.store_putClock (m : Mail) (o : Owner) (l : List ClockMail) : (m.putClock o l).store = m.store := by
  cases o <;> rfl

@[simp] theorem State.cck_sendClock (s : State) (o : Owner) (m : ClockMail) : (s.sendClock o m).cck = s.cck := rfl

@[simp] theorem State.clock_sendClock (s : State) (o : Owner) (m : ClockMail) :
    (s.sendClock o m).mail.clock o = s.mail.clock o ++ [m] := Mail.clock_putClock ..

/-- A slot that is absent or holds a later time gives nothing (R51). -/
theorem State.testSlot_later (s : State) (o : Owner) (how : Reached)
    (h : ∀ d, s.cck.due.get o = some d → s.cck.time < d) : s.testSlot o how = s := by
  unfold State.testSlot
  cases hd : s.cck.due.get o with
  | none => rfl
  | some d =>
    have hn : decide (d ≤ s.cck.time) = false := decide_eq_false (Nat.not_le_of_lt (h d hd))
    simp only [hn, Bool.and_false, Bool.false_eq_true, if_false]

/-- Nothing is delivered while CCK delivers no due events, or while the owner's notice waits (R52, R53). -/
theorem State.testSlot_held (s : State) (o : Owner) (how : Reached)
    (h : s.deliversDues = false ∨ s.noticeWaits o = true) : s.testSlot o how = s := by
  unfold State.testSlot
  cases s.cck.due.get o with
  | none => rfl
  | some d => rcases h with h | h <;> simp [h]

/-- A time at or before the present one gives one due event and leaves the slot absent (R51). -/
theorem State.testSlot_reached (s : State) (o : Owner) (how : Reached) (d : Nat) (hd : s.cck.due.get o = some d)
    (hs : s.deliversDues = true) (hn : s.noticeWaits o = false) (ht : d ≤ s.cck.time) :
    s.testSlot o how =
      (s.setCck { s.cck with due := s.cck.due.put o none }).sendClock o (.due ⟨d, s.cck.time, s.cck.gen, how⟩) := by
  unfold State.testSlot
  simp [hd, hs, hn, ht]

/-- All that a test changes: the owner's own slot and the messages in transit. -/
theorem State.testSlot_frame (s : State) (o : Owner) (how : Reached) :
    ∃ d m, s.testSlot o how = (s.setCck { s.cck with due := s.cck.due.put o d }).setMail m := by
  unfold State.testSlot
  split
  · next h => exact ⟨none, s.mail, by cases s; rw [← h, DueSlots.put_get]; rfl⟩
  · next t h =>
    split
    · exact ⟨_, _, rfl⟩
    · exact ⟨some t, s.mail, by cases s; rw [← h, DueSlots.put_get]; rfl⟩

/-- Arming a slot for a later time, or disarming it, sends nothing (R51). -/
theorem State.arm_later (s : State) (o : Owner) (t : Option Nat) (how : Reached) (h : ∀ d, t = some d → s.cck.time < d) :
    s.arm o t how = s.setCck { s.cck with due := s.cck.due.put o t } := by
  unfold State.arm
  refine State.testSlot_later _ _ _ fun d hd => ?_
  have e : (s.cck.due.put o t).get o = some d := hd
  rw [DueSlots.get_put] at e
  exact h d e

/-! ## The test in the turn of a message (R52) -/

/-- A first notice behind due events alone. -/
theorem firstNotice_append (pre : List ClockMail) (n : Notice) (post : List ClockMail)
    (h : ∀ m, ClockMail.notice m ∉ pre) : firstNotice (pre ++ .notice n :: post) = some n := by
  induction pre with
  | nil => rfl
  | cons x t ih =>
    cases x with
    | notice m => exact absurd (List.mem_cons_self ..) (h m)
    | due d => exact ih fun m hm => h m (List.mem_cons_of_mem _ hm)

theorem firstNotice_none (l : List ClockMail) (h : ∀ m, ClockMail.notice m ∉ l) : firstNotice l = none := by
  induction l with
  | nil => rfl
  | cons x t ih =>
    cases x with
    | notice m => exact absurd (List.mem_cons_self ..) (h m)
    | due d => exact ih fun m hm => h m (List.mem_cons_of_mem _ hm)

/-- A first notice is one of the messages. -/
theorem firstNotice_mem {l : List ClockMail} {n : Notice} (h : firstNotice l = some n) : .notice n ∈ l := by
  induction l with
  | nil => cases h
  | cons x t ih =>
    cases x with
    | notice m => exact Option.some.inj h ▸ List.mem_cons_self ..
    | due d => exact List.mem_cons_of_mem _ (ih h)

/-- A message put in line stands behind the due events that wait and ahead of the first notice. -/
theorem aheadOfNotice_append (x : ClockMail) (pre : List ClockMail) (n : Notice) (post : List ClockMail)
    (h : ∀ m, ClockMail.notice m ∉ pre) :
    aheadOfNotice x (pre ++ .notice n :: post) = pre ++ x :: .notice n :: post := by
  induction pre with
  | nil => rfl
  | cons y t ih =>
    cases y with
    | notice m => exact absurd (List.mem_cons_self ..) (h m)
    | due d => exact congrArg (ClockMail.due d :: ·) (ih fun m hm => h m (List.mem_cons_of_mem _ hm))

theorem aheadOfNotice_none (x : ClockMail) (l : List ClockMail) (h : firstNotice l = none) :
    aheadOfNotice x l = l ++ [x] := by
  induction l with
  | nil => rfl
  | cons y t ih =>
    cases y with
    | notice m => cases h
    | due d => exact congrArg (ClockMail.due d :: ·) (ih h)

/-- The turn's time lies before a moment that CCK's time and every waiting change's old time lie before. -/
theorem State.turnTime_lt (s : State) (o : Owner) {x : Nat} (ht : s.cck.time < x)
    (hn : ∀ n, ClockMail.notice n ∈ s.mail.clock o → n.oldTime < x) : s.turnTime o < x := by
  unfold State.turnTime State.nextNotice
  split
  · next n h => exact hn n (firstNotice_mem h)
  · exact ht

/-- With no notice left the test in turn is the test against the present time (R51, R52). -/
theorem State.testInTurn_last (s : State) (o : Owner) (how : Reached) (h : s.nextNotice o = none) :
    s.testInTurn o how = s.testSlot o how := by
  have hn : s.noticeWaits o = false := by rw [State.noticeWaits, h]; rfl
  have ht : s.turnTime o = s.cck.time := by rw [State.turnTime, h]
  have hg : s.turnGen o = s.cck.gen := by rw [State.turnGen, h]
  unfold State.testInTurn State.testSlot
  simp only [hn, ht, hg, Bool.or_false, Bool.not_false, Bool.and_true]
  cases s.cck.due.get o with
  | none => rfl
  | some t =>
    simp only
    split
    · rw [State.sendClock, aheadOfNotice_none _ _ h]
      rfl
    · rfl

/-- A slot that is absent or holds a time later than the turn's gives nothing (R51, R52). -/
theorem State.testInTurn_later (s : State) (o : Owner) (how : Reached)
    (h : ∀ d, s.cck.due.get o = some d → s.turnTime o < d) : s.testInTurn o how = s := by
  unfold State.testInTurn
  cases hd : s.cck.due.get o with
  | none => rfl
  | some d =>
    have hn : decide (d ≤ s.turnTime o) = false := decide_eq_false (Nat.not_le_of_lt (h d hd))
    simp only [hn, Bool.and_false, Bool.false_eq_true, if_false]

/-- A time reached before the change whose notice waits gives one due event ahead of that notice (R52). -/
theorem State.testInTurn_reached (s : State) (o : Owner) (how : Reached) (n : Notice) (d : Nat)
    (hn : s.nextNotice o = some n) (hd : s.cck.due.get o = some d) (ht : d ≤ n.oldTime) :
    s.testInTurn o how =
      (s.setCck { s.cck with due := s.cck.due.put o none }).setMail
        (s.mail.putClock o (aheadOfNotice (.due ⟨d, n.oldTime, n.oldGen, how⟩) (s.mail.clock o))) := by
  have hw : s.noticeWaits o = true := by rw [State.noticeWaits, hn]; rfl
  have he : s.turnTime o = n.oldTime := by rw [State.turnTime, hn]
  have hg : s.turnGen o = n.oldGen := by rw [State.turnGen, hn]
  unfold State.testInTurn
  simp [hd, hw, he, hg, ht]

/-- All that a test in turn changes: the owner's own slot and the messages in transit. -/
theorem State.testInTurn_frame (s : State) (o : Owner) (how : Reached) :
    ∃ d m, s.testInTurn o how = (s.setCck { s.cck with due := s.cck.due.put o d }).setMail m := by
  unfold State.testInTurn
  split
  · next h => exact ⟨none, s.mail, by cases s; rw [← h, DueSlots.put_get]; rfl⟩
  · next t h =>
    split
    · exact ⟨_, _, rfl⟩
    · exact ⟨some t, s.mail, by cases s; rw [← h, DueSlots.put_get]; rfl⟩

/-- With no notice left, arming in turn is arming (R51). -/
theorem State.armInTurn_last (s : State) (o : Owner) (t : Option Nat) (how : Reached) (h : s.nextNotice o = none) :
    s.armInTurn o t how = s.arm o t how := State.testInTurn_last _ _ _ h

/-- Arming a slot for a time later than the turn's, or disarming it, sends nothing (R51, R52). -/
theorem State.armInTurn_later (s : State) (o : Owner) (t : Option Nat) (how : Reached)
    (h : ∀ d, t = some d → s.turnTime o < d) :
    s.armInTurn o t how = s.setCck { s.cck with due := s.cck.due.put o t } := by
  unfold State.armInTurn
  refine State.testInTurn_later _ _ _ fun d hd => ?_
  have e : (s.cck.due.put o t).get o = some d := hd
  rw [DueSlots.get_put] at e
  have := h d e
  unfold State.turnTime at this ⊢
  exact this

/-- Arming a slot for a time reached before the change whose notice waits (R52). -/
theorem State.armInTurn_reached (s : State) (o : Owner) (how : Reached) (n : Notice) (d : Nat)
    (hn : s.nextNotice o = some n) (ht : d ≤ n.oldTime) :
    s.armInTurn o (some d) how =
      (s.setCck { s.cck with due := s.cck.due.put o none }).setMail
        (s.mail.putClock o (aheadOfNotice (.due ⟨d, n.oldTime, n.oldGen, how⟩) (s.mail.clock o))) := by
  have e := State.testInTurn_reached (s.setCck { s.cck with due := s.cck.due.put o (some d) }) o how n d hn
    (DueSlots.get_put s.cck.due o (some d)) ht
  refine Eq.trans (show s.armInTurn o (some d) how = _ from rfl) (e.trans ?_)
  simp only [State.setCck, DueSlots.put_put]

/-- A slot tested in turn as it stands is one armed in turn with what it holds. -/
theorem State.testInTurn_eq_arm (s : State) (o : Owner) (how : Reached) :
    s.testInTurn o how = s.armInTurn o (s.cck.due.get o) how := by
  unfold State.armInTurn
  rw [DueSlots.put_get]
  rfl

/-- An owner in service is given the notice behind what waits for it; any other is given none (R52, R54). -/
theorem State.notify_eq (s : State) (o : Owner) (n : Notice) :
    s.notify o n = if s.inService o then s.setMail (s.mail.putClock o (s.mail.clock o ++ [.notice n])) else s := rfl

@[simp] theorem State.cck_notify (s : State) (o : Owner) (n : Notice) : (s.notify o n).cck = s.cck := by
  unfold State.notify
  split <;> rfl

/-- A change of time gives CCK the new time, generation and validity, and keeps its second phase and its slots (R52). -/
theorem State.cck_changeTime (s : State) (k : ChangeKind) (time gen : Nat) (valid : Bool) :
    (s.changeTime k time gen valid).cck = { s.cck with time := time, gen := gen, valid := valid } := by
  unfold State.changeTime
  simp only [State.cck_notify]
  rfl

/-- A change notice is all that a notice changes, so a change of time leaves everything but CCK and the messages. -/
theorem State.notify_frame (s : State) (o : Owner) (n : Notice) : ∃ m, s.notify o n = s.setMail m := by
  unfold State.notify
  split
  · exact ⟨_, rfl⟩
  · exact ⟨s.mail, rfl⟩

theorem State.changeTime_frame (s : State) (k : ChangeKind) (time gen : Nat) (valid : Bool) :
    ∃ m, s.changeTime k time gen valid = (s.setCck { s.cck with time := time, gen := gen, valid := valid }).setMail m := by
  unfold State.changeTime
  obtain ⟨a, ha⟩ := State.notify_frame (s.setCck { s.cck with time := time, gen := gen, valid := valid }) .ipu
    ⟨k, s.cck.time, time, s.cck.gen, gen, s.cck.valid, valid⟩
  simp only [ha]
  obtain ⟨b, hb⟩ := State.notify_frame ((s.setCck { s.cck with time := time, gen := gen, valid := valid }).setMail a) .tcu
    ⟨k, s.cck.time, time, s.cck.gen, gen, s.cck.valid, valid⟩
  simp only [hb]
  obtain ⟨c, hc⟩ := State.notify_frame
    (((s.setCck { s.cck with time := time, gen := gen, valid := valid }).setMail a).setMail b) .bfu
    ⟨k, s.cck.time, time, s.cck.gen, gen, s.cck.valid, valid⟩
  simp only [hc]
  obtain ⟨d, hd⟩ := State.notify_frame
    ((((s.setCck { s.cck with time := time, gen := gen, valid := valid }).setMail a).setMail b).setMail c) .ecu
    ⟨k, s.cck.time, time, s.cck.gen, gen, s.cck.valid, valid⟩
  exact ⟨d, hd⟩

/-- The earlier of two times lies after any moment that both lie after. -/
theorem earlier_later {a b : Option Nat} {m n : Nat} (ha : ∀ d, a = some d → m < d) (hb : ∀ d, b = some d → m < d)
    (h : earlier a b = some n) : m < n := by
  cases a with
  | none =>
    cases b with
    | none => cases h
    | some y => exact hb n h
  | some x =>
    cases b with
    | none => exact ha n h
    | some y =>
      have hx := ha x rfl
      have hy := hb y rfl
      have e : min x y = n := Option.some.inj h
      omega

end Sys2Proof.Machine
end

