-- ==== Sys2Proof/Laws/Collect.lean ====
section
/-! SUPPORT. The collection of frames from bytes (R207, R211): bytes in two parts, bytes between frames, one byte. -/

namespace Sys2Proof.Machine

theorem collect_nil (m : Byte) (e : List Byte → Extent) (buf : List Byte) : collect m e buf [] = (buf, []) := rfl

theorem collect_fold (m : Byte) (e : List Byte → Extent) (bytes buf : List Byte) (out : List (List Byte)) :
    bytes.foldl
        (fun acc b =>
          let r := collectByte m e acc.1 b
          (r.1, acc.2 ++ r.2))
        (buf, out)
      = ((collect m e buf bytes).1, out ++ (collect m e buf bytes).2) := by
  induction bytes generalizing buf out with
  | nil => simp [collect]
  | cons b t ih =>
    rw [List.foldl_cons, collect, List.foldl_cons, ih, ih]
    simp

/-- Bytes received in two parts are collected as in one. -/
theorem collect_append (m : Byte) (e : List Byte → Extent) (buf a b : List Byte) :
    collect m e buf (a ++ b)
      = ((collect m e (collect m e buf a).1 b).1, (collect m e buf a).2 ++ (collect m e (collect m e buf a).1 b).2) := by
  rw [← collect_fold m e b (collect m e buf a).1 (collect m e buf a).2, collect, List.foldl_append]
  rfl

/-- One byte, and then the others. -/
theorem collect_cons (m : Byte) (e : List Byte → Extent) (buf : List Byte) (b : Byte) (t : List Byte) :
    collect m e buf (b :: t)
      = ((collect m e (collectByte m e buf b).1 t).1,
          (collectByte m e buf b).2 ++ (collect m e (collectByte m e buf b).1 t).2) := by
  have h := collect_append m e buf [b] t
  have h1 : collect m e buf [b] = collectByte m e buf b := by simp [collect]
  rw [h1] at h
  exact h

/-- Bytes between frames, other than the marker, are ignored. -/
theorem collect_ignored (m : Byte) (e : List Byte → Extent) (junk : List Byte) (h : ∀ b ∈ junk, b ≠ m) :
    collect m e [] junk = ([], []) := by
  induction junk with
  | nil => rfl
  | cons b t ih =>
    have hb : collectByte m e [] b = ([], []) := if_neg (h b (List.mem_cons_self ..))
    rw [collect_cons, hb, ih fun x hx => h x (List.mem_cons_of_mem _ hx)]
    rfl

/-- The bytes of a frame whose length is known are kept until the frame is whole, markers among them (R207). -/
theorem collect_inside (m : Byte) (e : List Byte → Extent) (n : Nat) (buf more : List Byte) (hb : buf ≠ [])
    (hm : more ≠ []) (hn : buf.length + more.length = n)
    (he : ∀ k ≤ more.length, 1 ≤ k → e (buf ++ more.take k) = .whole n) :
    collect m e buf more = ([], [buf ++ more]) := by
  induction more generalizing buf with
  | nil => exact absurd rfl hm
  | cons b t ih =>
    obtain ⟨c, u, rfl⟩ := List.exists_cons_of_ne_nil hb
    have h1 := he 1 (by simp) (Nat.le_refl 1)
    rw [List.take_succ_cons, List.take_zero] at h1
    simp only [List.length_cons] at hn
    cases t with
    | nil =>
      have hc : collectByte m e (c :: u) b = ([], [c :: u ++ [b]]) := by
        unfold collectByte
        simp only [h1]
        rw [if_neg (by simp only [List.length_append, List.length_cons, List.length_nil] at hn ⊢; omega)]
      rw [collect_cons, hc]
      rfl
    | cons d v =>
      have hc : collectByte m e (c :: u) b = (c :: u ++ [b], []) := by
        unfold collectByte
        simp only [h1]
        rw [if_pos (by simp only [List.length_append, List.length_cons, List.length_nil] at hn ⊢; omega)]
      have hi := ih (c :: u ++ [b]) (by simp) (by simp)
        (by simp only [List.length_append, List.length_cons, List.length_nil] at hn ⊢; omega)
        fun k hk h1k => by
          have := he (k + 1) (by simp only [List.length_cons] at hk ⊢; omega) (by omega)
          rw [List.take_succ_cons] at this
          simpa using this
      rw [collect_cons, hc]
      simp only [List.nil_append, hi]
      simp

end Sys2Proof.Machine
end

