-- ==== Sys2Proof/Laws/Queue.lean ====
section
/-! SUPPORT. DSC's client queue: all that placing a request, refusing one, or wanting a routine image can change. -/

namespace Sys2Proof.Machine

/-- A refusal changes the messages in transit alone (R155). -/
theorem State.refuseClient_frame (s : State) (c : Client) : ∃ m, s.refuseClient c = s.setMail m := by
  cases c <;> exact ⟨_, rfl⟩

/-- Outside FAULT a request goes into the queue at its priority (R155). -/
theorem State.enqueue_placed (s : State) (c : Client) (ops : List ArrayOp) (h : s.dsc.fault = false) :
    s.enqueue c ops =
      s.setDsc { s.dsc with
        nextId := s.dsc.nextId + 1
        queue := insertRequest ⟨s.dsc.nextId, c.priority, c, ops, !(c.isImage || c.isConfig), false, [], none⟩
          s.dsc.queue } := by
  unfold State.enqueue
  simp [h]

/-- In FAULT a request that would program or erase is refused at once (R155, R158). -/
theorem State.enqueue_refused (s : State) (c : Client) (ops : List ArrayOp) (h : s.dsc.fault = true)
    (hr : c.isRead = false) (hc : c ≠ .holdup) : s.enqueue c ops = s.refuseClient c := by
  unfold State.enqueue
  simp [h, hr, hc]

/-- Placing a request changes DSC and the messages in transit alone. -/
theorem State.enqueue_frame (s : State) (c : Client) (ops : List ArrayOp) :
    ∃ d m, s.enqueue c ops = (s.setDsc d).setMail m := by
  unfold State.enqueue
  split
  · obtain ⟨m, h⟩ := State.refuseClient_frame s c
    exact ⟨s.dsc, m, h⟩
  · exact ⟨{ s.dsc with
      nextId := s.dsc.nextId + 1
      queue := insertRequest ⟨s.dsc.nextId, c.priority, c, ops, !(c.isImage || c.isConfig), false, [], none⟩ s.dsc.queue },
      s.mail, rfl⟩

theorem State.placeRoutine_frame (s : State) : ∃ d m, s.placeRoutine = (s.setDsc d).setMail m := by
  unfold State.placeRoutine
  split
  · exact State.enqueue_frame s _ _
  · exact ⟨s.dsc, s.mail, rfl⟩

/-- A trigger of a routine image changes DSC and the messages in transit alone (R163). -/
theorem State.wantImage_frame (s : State) : ∃ d m, s.wantImage = (s.setDsc d).setMail m :=
  State.placeRoutine_frame (s.setDsc { s.dsc with imageWanted := true })

/-- The requests in the queue after one is placed are that one and those there before. -/
theorem mem_insertRequest {r x : StoreRequest} {q : List StoreRequest} :
    x ∈ insertRequest r q ↔ x = r ∨ x ∈ q := by
  induction q with
  | nil => exact ⟨fun h => Or.inl (List.mem_singleton.mp h), fun h => h.elim (fun e => List.mem_singleton.mpr e) nofun⟩
  | cons y t ih =>
    unfold insertRequest
    split
    · rw [List.mem_cons, ih, List.mem_cons]
      constructor
      · rintro (h | h | h)
        · exact Or.inr (Or.inl h)
        · exact Or.inl h
        · exact Or.inr (Or.inr h)
      · rintro (h | h | h)
        · exact Or.inr (Or.inl h)
        · exact Or.inl h
        · exact Or.inr (Or.inr h)
    · exact List.mem_cons

end Sys2Proof.Machine
end

