-- ==== Sys2Proof/Laws/ExportControl.lean ====
section
/-! SUPPORT. What ECU's shared operations leave of the messages in transit, and how the messages of MFP are taken one after
the other at a return to MAINS. -/

namespace Sys2Proof.Machine

/-- A routine image has no client to tell, so that wanting one sends no message (R163). -/
@[simp] theorem State.placeRoutine_mail (s : State) : s.placeRoutine.mail = s.mail := by
  unfold State.placeRoutine State.enqueue
  split
  · split <;> rfl
  · rfl

@[simp] theorem State.wantImage_mail (s : State) : s.wantImage.mail = s.mail := State.placeRoutine_mail _

/-- An owner that arms its slot sends MFP's messages to nobody. -/
@[simp] theorem State.arm_ecuMfp (s : State) (o : Owner) (t : Option Nat) (how : Reached) :
    (s.arm o t how).mail.ecuMfp = s.mail.ecuMfp := by
  unfold State.arm State.testSlot
  split
  · rfl
  · split
    · cases o <;> rfl
    · rfl

@[simp] theorem State.report_ecuMfp (s : State) (p : PortId) (m : Member) (present : Bool) :
    (s.report p m present).mail.ecuMfp = s.mail.ecuMfp := by
  unfold State.report
  split
  · cases p <;> rfl
  · rfl

/-- A trip leaves MFP's messages as they are (R143). -/
@[simp] theorem State.trip_ecuMfp (s : State) (t : Nat) (c : Cause) : (s.trip t c).mail.ecuMfp = s.mail.ecuMfp := by
  simp only [State.trip, State.raiseOpen, State.report_ecuMfp, State.setInterlock, State.wantImage_mail]
  rfl

/-- ECU takes one message of MFP and leaves the others (R139, R141). -/
@[simp] theorem State.takeEcuMail_ecuMfp (s : State) (m : EcuMail) : (s.takeEcuMail m).mail.ecuMfp = s.mail.ecuMfp := by
  cases m with
  | epoch inc =>
    simp only [State.takeEcuMail, State.judgeEpoch]
    repeat' split
    all_goals first | rfl | simp only [State.armEcu, State.arm_ecuMfp, State.trip_ecuMfp]
  | port st =>
    simp only [State.takeEcuMail, State.takePort]
    split
    · simp only [State.armEcu, State.arm_ecuMfp, State.trip_ecuMfp]
      rfl
    · rfl

/-- With nothing of MFP in transit the view is IDLE (R148). -/
theorem State.settleMfp_nil (s : State) (h : s.mail.ecuMfp = []) :
    s.settleMfp = s.setEcu { s.ecu with view := .idle } := by
  rw [State.settleMfp, h]
  rfl

/-- The oldest message of MFP is taken first (log 7). -/
theorem State.settleMfp_cons (s : State) (m : EcuMail) (rest : List EcuMail) (h : s.mail.ecuMfp = m :: rest) :
    s.settleMfp = ((s.setMail { s.mail with ecuMfp := rest }).takeEcuMail m).settleMfp := by
  have hk : ((s.setMail { s.mail with ecuMfp := rest }).takeEcuMail m).mail.ecuMfp = rest := State.takeEcuMail_ecuMfp ..
  rw [State.settleMfp, State.settleMfp, h, hk]
  rfl

end Sys2Proof.Machine
end

