-- ==== Sys2Proof/Laws/Layout.lean ====
section
/-! SUPPORT. The bytes of the array's slots: their lengths, and that a whole record's slot is valid and an erased one is
not (R212 to R215). -/

namespace Sys2Proof.Machine

/-! ## Lengths -/

@[simp] theorem be_length (k n : Nat) : (be k n).length = k := by
  induction k generalizing n with
  | zero => rfl
  | succ k ih => rw [be, List.length_append, ih]; rfl

@[simp] theorem crcBytes_length (bs : List Byte) : (crcBytes bs).length = 2 := be_length ..

@[simp] theorem flagByte_length (b : Bool) : (flagByte b).length = 1 := be_length ..

@[simp] theorem optBe_length (k : Nat) (x : Option Nat) : (optBe k x).length = k + 1 := by
  cases x <;> simp [optBe, Nat.add_comm]

@[simp] theorem dateBytes_length (d : Date) : (dateBytes d).length = 4 := by simp [dateBytes]

@[simp] theorem optDate_length (x : Option Date) : (optDate x).length = 5 := by cases x <;> simp [optDate]

@[simp] theorem erasedBytes_length (n : Nat) : (erasedBytes n).length = n := List.length_replicate

@[simp] theorem completionMarker_length : completionMarker.length = 16 := rfl

theorem flatMap_length {α : Type} (l : List α) (f : α → List Byte) (k : Nat) (h : ∀ x ∈ l, (f x).length = k) :
    (l.flatMap f).length = l.length * k := by
  induction l with
  | nil => simp
  | cons a t ih =>
    rw [List.flatMap_cons, List.length_append, h a (List.mem_cons_self ..),
      ih fun x hx => h x (List.mem_cons_of_mem _ hx), List.length_cons, Nat.succ_mul, Nat.add_comm]

@[simp] theorem IntervalRecord.fields_length (r : IntervalRecord) : r.fields.length = 30 := by
  simp [IntervalRecord.fields]

@[simp] theorem IntervalRecord.bytes_length (r : IntervalRecord) : r.bytes.length = 32 := by
  simp [IntervalRecord.bytes]

@[simp] theorem Registers.bytes_length (g : Registers) : g.bytes.length = 120 := by
  rw [Registers.bytes, flatMap_length _ _ 8 fun x _ => be_length ..]
  rfl

@[simp] theorem Demand.bytes_length (d : Demand) : d.bytes.length = 8 := by simp [Demand.bytes]

@[simp] theorem Demands.bytes_length (d : Demands) : d.bytes.length = 56 := by
  rw [Demands.bytes, flatMap_length _ _ 8 fun x _ => Demand.bytes_length x]
  rfl

@[simp] theorem FrozenSet.fields_length (f : FrozenSet) : f.fields.length = 196 := by
  cases h : f.billingDate <;> simp [FrozenSet.fields, h]

@[simp] theorem FrozenSet.bytes_length (f : FrozenSet) : f.bytes.length = 198 := by simp [FrozenSet.bytes]

@[simp] theorem FrozenSet.page_length (f : FrozenSet) : f.page.length = 256 := by simp [FrozenSet.page]

/-- READ_FROZEN returns bytes 0 to 197 of the page (R212). -/
theorem FrozenSet.page_take (f : FrozenSet) : f.page.take 198 = f.bytes := by
  rw [FrozenSet.page, List.append_assoc, List.take_append_of_le_length (by simp), List.take_of_length_le (by simp)]

/-! ## Validity -/

theorem checkedUpTo_append (a rest : List Byte) : checkedUpTo (a ++ (crcBytes a ++ rest)) a.length = true := by
  simp [checkedUpTo]

theorem markedAt_append (a : List Byte) : markedAt (a ++ completionMarker) a.length = true := by
  rw [markedAt, List.drop_left]
  decide

/-- The slot of an interval record is valid. -/
theorem IntervalRecord.slot_valid (r : IntervalRecord) : validRecordSlot r.bytes = true := by
  have h := checkedUpTo_append r.fields []
  rw [List.append_nil, r.fields_length] at h
  exact h

/-- The page of a frozen set is valid. -/
theorem FrozenSet.page_valid (f : FrozenSet) : validFrozenPage f.page = true := by
  have h1 := checkedUpTo_append f.fields (erasedBytes 42 ++ completionMarker)
  have h2 := markedAt_append (f.bytes ++ erasedBytes 42)
  rw [f.fields_length] at h1
  have e : (f.bytes ++ erasedBytes 42).length = 240 := by simp
  rw [e] at h2
  rw [validFrozenPage, Bool.and_eq_true]
  refine ⟨?_, h2⟩
  have e2 : f.page = f.fields ++ (crcBytes f.fields ++ (erasedBytes 42 ++ completionMarker)) := by
    simp [FrozenSet.page, FrozenSet.bytes]
  rw [e2]
  exact h1

theorem markedAt_erased (n k : Nat) (h : n - k = 16) : markedAt (erasedBytes n) k = false := by
  rw [markedAt, erasedBytes, List.drop_replicate, h, List.take_replicate]
  decide

/-- Erased slots are valid records of no kind. -/
theorem erased_invalid :
    validRecordSlot (erasedBytes 32) = false ∧ validFrozenPage (erasedBytes 256) = false
      ∧ validImageSlot (erasedBytes 1024) = false := by
  refine ⟨by decide +kernel, ?_, ?_⟩
  · rw [validFrozenPage, markedAt_erased 256 240 rfl, Bool.and_false]
  · rw [validImageSlot, markedAt_erased 1024 1008 rfl, Bool.and_false]

/-- Every interval record that stands whole in the array is valid by its bytes. -/
theorem Store.validRecords_eq (st : Store) : st.validRecords = st.profile.valid :=
  List.filter_eq_self.mpr fun e _ => e.2.slot_valid

/-- Every frozen set that stands whole in the array is valid by its bytes. -/
theorem Store.validFrozen_eq (st : Store) : st.validFrozen = st.frozen.valid :=
  List.filter_eq_self.mpr fun e _ => e.2.page_valid

/-! ## The commit image -/

theorem foldl_be (k n acc : Nat) :
    (be k n).foldl (fun a (b : Byte) => a * 256 + b.toNat) acc = acc * 256 ^ k + n % 256 ^ k := by
  induction k generalizing n with
  | zero => simp [be, Nat.mod_one]
  | succ k ih =>
    have hb : (BitVec.ofNat 8 n).toNat = n % 256 := BitVec.toNat_ofNat ..
    have hm : n % 256 ^ (k + 1) = n % 256 + 256 * (n / 256 % 256 ^ k) := by
      rw [Nat.pow_succ, Nat.mul_comm (256 ^ k) 256, Nat.mod_mul]
    have hp : acc * 256 ^ (k + 1) = acc * 256 ^ k * 256 := by rw [Nat.pow_succ, Nat.mul_assoc]
    rw [be, List.foldl_append, ih, List.foldl_cons, List.foldl_nil, hb, hm, hp]
    omega

/-- A number that fits its bytes is read back. -/
theorem ofBe_be (k n : Nat) (h : n < 256 ^ k) : ofBe (be k n) = n := by
  rw [ofBe, foldl_be, Nat.zero_mul, Nat.zero_add, Nat.mod_eq_of_lt h]

/-- The lengths before the parts lead to the place after the last. -/
theorem afterParts_parts (parts : List (List Byte)) (a rest : List Byte) (h : ∀ p ∈ parts, p.length < 65536) :
    afterParts (a ++ (parts.flatMap lengthAndPart ++ rest)) parts.length a.length
      = (a ++ parts.flatMap lengthAndPart).length := by
  induction parts generalizing a with
  | nil => simp [afterParts]
  | cons p t ih =>
    have hp : ofBe (be 2 p.length) = p.length := ofBe_be 2 _ (h p (List.mem_cons_self ..))
    have e : ((a ++ ((p :: t).flatMap lengthAndPart ++ rest)).drop a.length).take 2 = be 2 p.length := by
      rw [List.drop_left, List.flatMap_cons, lengthAndPart, List.append_assoc, List.append_assoc]
      exact List.take_left' (be_length ..)
    rw [List.length_cons, afterParts, e, hp]
    have ih2 := ih (a ++ lengthAndPart p) fun q hq => h q (List.mem_cons_of_mem _ hq)
    have e2 : (a ++ lengthAndPart p).length = a.length + 2 + p.length := by simp [lengthAndPart]; omega
    rw [e2] at ih2
    rw [List.flatMap_cons, List.append_assoc, ← List.append_assoc a, ih2, List.append_assoc]

theorem part_length_le {parts : List (List Byte)} {p : List Byte} (hp : p ∈ parts) :
    p.length ≤ (parts.flatMap lengthAndPart).length := by
  induction parts with
  | nil => cases hp
  | cons q t ih =>
    rw [List.flatMap_cons, List.length_append]
    rcases List.mem_cons.mp hp with rfl | hp
    · simp [lengthAndPart]; omega
    · have := ih hp
      omega

/-- An image that ends at or before byte 1,007 has a valid slot (R215). -/
theorem CommitImage.slot_valid (x : CommitImage) (h : x.bytes.length ≤ 1008) : validImageSlot x.slot = true := by
  have hl : x.bytes.length = x.fields.length + 2 := by simp [CommitImage.bytes]
  have hf : x.fields.length = 5 + (x.parts.flatMap lengthAndPart).length := by
    simp only [CommitImage.fields, List.length_append, be_length]
  have hp : ∀ p ∈ x.parts, p.length < 65536 := fun p hp => by
    have := part_length_le hp
    omega
  have hs : x.slot = x.fields ++ (crcBytes x.fields ++ (erasedBytes (1008 - x.bytes.length) ++ completionMarker)) := by
    simp [CommitImage.slot, CommitImage.bytes]
  have he : afterParts x.slot 8 5 = x.fields.length := by
    have := afterParts_parts x.parts (be 4 x.seq ++ be 1 x.cause.code)
      (crcBytes x.fields ++ (erasedBytes (1008 - x.bytes.length) ++ completionMarker)) hp
    rw [hs]
    have e5 : (be 4 x.seq ++ be 1 x.cause.code).length = 5 := by simp
    rw [e5] at this
    rw [CommitImage.fields, List.append_assoc]
    exact this
  have h1 := checkedUpTo_append x.fields (erasedBytes (1008 - x.bytes.length) ++ completionMarker)
  have h2 := markedAt_append (x.bytes ++ erasedBytes (1008 - x.bytes.length))
  have e3 : (x.bytes ++ erasedBytes (1008 - x.bytes.length)).length = 1008 := by simp; omega
  rw [e3] at h2
  rw [validImageSlot]
  simp only [he, Bool.and_eq_true, decide_eq_true_eq]
  exact ⟨⟨by omega, by rw [hs]; exact h1⟩, h2⟩

@[simp] theorem SlotMap.bytes_length (m : SlotMap) : m.bytes.length = 7 := by
  rw [SlotMap.bytes, flatMap_length _ _ 1 fun x _ => be_length ..]
  rfl

theorem pendingMapBytes_length (m : Option SlotMap) : (pendingMapBytes m).length = 8 := by
  cases m <;> simp [pendingMapBytes]

@[simp] theorem Directive.bytes_length (d : Directive) (g : Bool) : (d.bytes g).length = 20 := by simp [Directive.bytes]

/-- An image with at most two queued records and at most eight directives ends before byte 1,008 (R162). -/
theorem CommitImage.bytes_length_le (x : CommitImage) (hq : x.ipu.queue.length ≤ 2) (hl : x.ecu.list.length ≤ 8) :
    x.bytes.length ≤ 1008 := by
  have h1 := flatMap_length x.ipu.queue IntervalRecord.bytes 32 fun r _ => r.bytes_length
  have h2 := flatMap_length x.ecu.list (fun d => d.bytes false) 20 fun d _ => d.bytes_length false
  have a1 : x.nau.partBytes.length = 188 := by simp [Nau.partBytes]
  have a2 : x.mfp.bytes.length = 15 := by simp [MfpPart.bytes, pendingMapBytes_length]
  have a3 : x.cck.bytes.length = 6 := by simp [CckPart.bytes]
  have a4 : x.tcu.bytes.length = 13 := by simp [TcuPart.bytes]
  have a5 : x.ipu.bytes.length ≤ 140 := by
    cases h : x.ipu.interval <;>
      simp only [IpuPart.bytes, OpenInterval.bytes, h, h1, List.length_append, be_length, optBe_length,
        flagByte_length] <;> omega
  have a6 : x.bfu.bytes.length ≤ 210 := by
    cases h : x.bfu.captured <;>
      simp only [BfuPart.bytes, h, List.length_append, be_length, flagByte_length, optDate_length,
        FrozenSet.bytes_length] <;> omega
  have a7 : x.ecu.bytes.length ≤ 200 := by
    simp only [EcuPart.bytes, h2, List.length_append, be_length, flagByte_length]
    omega
  have a8 : (flagByte x.tamper).length = 1 := flagByte_length _
  simp only [CommitImage.bytes, CommitImage.fields, CommitImage.parts, List.flatMap_cons, List.flatMap_nil,
    lengthAndPart, List.length_append, be_length, crcBytes_length, List.length_nil]
  omega

/-- Every image that stands whole in the array and fits its slot is valid by its bytes. -/
theorem Store.mem_validImages (st : Store) (e : Nat × CommitImage) (h : e.2.bytes.length ≤ 1008) :
    e ∈ st.validImages ↔ e ∈ st.images.valid :=
  ⟨fun m => (List.mem_filter.mp m).1, fun m => List.mem_filter.mpr ⟨m, e.2.slot_valid h⟩⟩

end Sys2Proof.Machine
end

