-- ==== Sys2Proof/Laws/Ports.lean ====
section
/-! SUPPORT. What the port operations can do: one port's state read and replaced, the hand-over of a request, an owner's
answer, a unit's report. -/

namespace Sys2Proof.Machine

/-! ## One port's state -/

@[simp] theorem State.port_setPort (s : State) (p : PortId) (x : Port) : (s.setPort p x).port p = x := by
  cases p <;> rfl

theorem State.port_setPort_other (s : State) (p q : PortId) (x : Port) (h : q ≠ p) :
    (s.setPort p x).port q = s.port q := by
  cases p <;> cases q <;> first | rfl | exact absurd rfl h

@[simp] theorem State.setPort_setPort (s : State) (p : PortId) (x y : Port) :
    (s.setPort p x).setPort p y = s.setPort p y := by
  cases p <;> rfl

@[simp] theorem State.setPort_port (s : State) (p : PortId) : s.setPort p (s.port p) = s := by
  cases p <;> rfl

/-- Replacing a port's state changes that port alone. -/
theorem State.setPort_frame (s : State) (p : PortId) (x : Port) :
    s.setPort p x =
      { s with ulk := (s.setPort p x).ulk, slk := (s.setPort p x).slk, opt := (s.setPort p x).opt } := by
  cases p <;> rfl

/-! ## What a port's state and a request waiting at it leave -/

@[simp] theorem State.setPort_mfp (s : State) (p : PortId) (x : Port) : (s.setPort p x).mfp = s.mfp := by
  cases p <;> rfl
@[simp] theorem State.setPort_nau (s : State) (p : PortId) (x : Port) : (s.setPort p x).nau = s.nau := by
  cases p <;> rfl
@[simp] theorem State.setPort_cck (s : State) (p : PortId) (x : Port) : (s.setPort p x).cck = s.cck := by
  cases p <;> rfl
@[simp] theorem State.setPort_tcu (s : State) (p : PortId) (x : Port) : (s.setPort p x).tcu = s.tcu := by
  cases p <;> rfl
@[simp] theorem State.setPort_ipu (s : State) (p : PortId) (x : Port) : (s.setPort p x).ipu = s.ipu := by
  cases p <;> rfl
@[simp] theorem State.setPort_bfu (s : State) (p : PortId) (x : Port) : (s.setPort p x).bfu = s.bfu := by
  cases p <;> rfl
@[simp] theorem State.setPort_ecu (s : State) (p : PortId) (x : Port) : (s.setPort p x).ecu = s.ecu := by
  cases p <;> rfl
@[simp] theorem State.setPort_dsc (s : State) (p : PortId) (x : Port) : (s.setPort p x).dsc = s.dsc := by
  cases p <;> rfl
@[simp] theorem State.setPort_ssv (s : State) (p : PortId) (x : Port) : (s.setPort p x).ssv = s.ssv := by
  cases p <;> rfl
@[simp] theorem State.setPort_cvm (s : State) (p : PortId) (x : Port) : (s.setPort p x).cvm = s.cvm := by
  cases p <;> rfl
@[simp] theorem State.setPort_store (s : State) (p : PortId) (x : Port) : (s.setPort p x).store = s.store := by
  cases p <;> rfl
@[simp] theorem State.setPort_mail (s : State) (p : PortId) (x : Port) : (s.setPort p x).mail = s.mail := by
  cases p <;> rfl
@[simp] theorem State.setPort_exportPermit (s : State) (p : PortId) (x : Port) : (s.setPort p x).exportPermit = s.exportPermit := by
  cases p <;> rfl
@[simp] theorem State.setPort_coverSwitch (s : State) (p : PortId) (x : Port) : (s.setPort p x).coverSwitch = s.coverSwitch := by
  cases p <;> rfl
@[simp] theorem State.setPort_freeIndex (s : State) (p : PortId) (x : Port) : (s.setPort p x).freeIndex = s.freeIndex := by
  cases p <;> rfl
@[simp] theorem State.setPort_pending (s : State) (p : PortId) (x : Port) : (s.setPort p x).pending = s.pending := by
  cases p <;> rfl

@[simp] theorem waiting_mfp (s : State) (p : PortId) (code tag : Byte) : (waiting s p code tag).mfp = s.mfp := by
  cases p <;> rfl
@[simp] theorem waiting_nau (s : State) (p : PortId) (code tag : Byte) : (waiting s p code tag).nau = s.nau := by
  cases p <;> rfl
@[simp] theorem waiting_cck (s : State) (p : PortId) (code tag : Byte) : (waiting s p code tag).cck = s.cck := by
  cases p <;> rfl
@[simp] theorem waiting_tcu (s : State) (p : PortId) (code tag : Byte) : (waiting s p code tag).tcu = s.tcu := by
  cases p <;> rfl
@[simp] theorem waiting_ipu (s : State) (p : PortId) (code tag : Byte) : (waiting s p code tag).ipu = s.ipu := by
  cases p <;> rfl
@[simp] theorem waiting_bfu (s : State) (p : PortId) (code tag : Byte) : (waiting s p code tag).bfu = s.bfu := by
  cases p <;> rfl
@[simp] theorem waiting_ecu (s : State) (p : PortId) (code tag : Byte) : (waiting s p code tag).ecu = s.ecu := by
  cases p <;> rfl
@[simp] theorem waiting_dsc (s : State) (p : PortId) (code tag : Byte) : (waiting s p code tag).dsc = s.dsc := by
  cases p <;> rfl
@[simp] theorem waiting_ssv (s : State) (p : PortId) (code tag : Byte) : (waiting s p code tag).ssv = s.ssv := by
  cases p <;> rfl
@[simp] theorem waiting_cvm (s : State) (p : PortId) (code tag : Byte) : (waiting s p code tag).cvm = s.cvm := by
  cases p <;> rfl
@[simp] theorem waiting_store (s : State) (p : PortId) (code tag : Byte) : (waiting s p code tag).store = s.store := by
  cases p <;> rfl
@[simp] theorem waiting_mail (s : State) (p : PortId) (code tag : Byte) : (waiting s p code tag).mail = s.mail := by
  cases p <;> rfl
@[simp] theorem waiting_exportPermit (s : State) (p : PortId) (code tag : Byte) : (waiting s p code tag).exportPermit = s.exportPermit := by
  cases p <;> rfl
@[simp] theorem waiting_coverSwitch (s : State) (p : PortId) (code tag : Byte) : (waiting s p code tag).coverSwitch = s.coverSwitch := by
  cases p <;> rfl
@[simp] theorem waiting_freeIndex (s : State) (p : PortId) (code tag : Byte) : (waiting s p code tag).freeIndex = s.freeIndex := by
  cases p <;> rfl
@[simp] theorem waiting_pending (s : State) (p : PortId) (code tag : Byte) : (waiting s p code tag).pending = s.pending := by
  cases p <;> rfl

/-! ## The hand-over of a request (R192, R193) -/

/-- An admitted request with an allowed length reaches its owner, the port SERVING. -/
theorem State.serve_admitted (s : State) (p : PortId) (code tag : Byte) (pl : List Byte) (owner : Origin → State → State)
    (h : Admitted s p code pl) :
    s.serve p code tag pl true owner = owner (nextOrigin s p) (waiting s p code tag) := by
  obtain ⟨hm, hi, hl, hr, _⟩ := h
  have hlen : ¬ (Config.maxPayload < pl.length) := by simpa [Config.maxPayload] using hl
  simp [State.serve, State.portsListen, hm, hi, hr, hlen, State.originAt, State.beginRequest, waiting, nextOrigin]

/-- An admitted request whose payload the layout reads reaches its owner with what was read. -/
theorem State.serveWith_admitted {α : Type} (s : State) (p : PortId) (code tag : Byte) (pl : List Byte) (a : α)
    (owner : α → Origin → State → State) (h : Admitted s p code pl) :
    s.serveWith p code tag pl (some a) owner = owner a (nextOrigin s p) (waiting s p code tag) :=
  State.serve_admitted s p code tag pl (owner a) h

/-- An admitted request with a length the layout does not allow is answered BAD_ARGUMENT (R207). -/
theorem State.serve_length (s : State) (p : PortId) (code tag : Byte) (pl : List Byte) (owner : Origin → State → State)
    (h : Admitted s p code pl) : s.serve p code tag pl false owner = answered s p code tag .badArgument [] := by
  obtain ⟨hm, hi, hl, hr, _⟩ := h
  have hlen : ¬ (Config.maxPayload < pl.length) := by simpa [Config.maxPayload] using hl
  simp [State.serve, State.portsListen, hm, hi, hr, hlen, State.originAt, State.beginRequest, State.reply, answered]

/-- An admitted request that asks other blocks stays in progress. -/
@[simp] theorem State.ask_waiting (s : State) (p : PortId) (code tag : Byte) (blocks : List Block) (given : Gathered) :
    (waiting s p code tag).ask ⟨blocks, given⟩ (nextOrigin s p) = gathering s p code tag blocks given := by
  simp [State.ask, waiting, nextOrigin, gathering]

/-- In HOLDUP and BACKUP a port takes no frame. -/
theorem State.serve_deaf (s : State) (p : PortId) (code tag : Byte) (pl : List Byte) (b : Bool)
    (owner : Origin → State → State) (h : s.ssv.supply = .holdup ∨ s.ssv.supply = .backup) :
    s.serve p code tag pl b owner = s := by
  rcases h with h | h <;> simp [State.serve, State.portsListen, h]

/-- A port that serves a request answers BUSY (R192). -/
theorem State.serve_busy (s : State) (p : PortId) (code tag : Byte) (pl : List Byte) (b : Bool)
    (owner : Origin → State → State) (h : s.ssv.supply = .start ∨ s.ssv.supply = .mains) (hl : pl.length ≤ 1024)
    (hi : (s.port p).inProgress ≠ none) : s.serve p code tag pl b owner = refusedAt s p code tag .busy := by
  have hlen : ¬ (Config.maxPayload < pl.length) := by simpa [Config.maxPayload] using hl
  have hsome : (s.port p).inProgress.isSome = true := by
    cases hx : (s.port p).inProgress with
    | none => exact absurd hx hi
    | some _ => rfl
  rcases h with h | h <;> simp [State.serve, State.portsListen, h, hsome, hlen, State.respond, refusedAt]

/-- A port's own refusal (R193). -/
theorem State.serve_refused (s : State) (p : PortId) (code tag : Byte) (pl : List Byte) (b : Bool)
    (owner : Origin → State → State) (res : Result) (h : s.ssv.supply = .start ∨ s.ssv.supply = .mains)
    (hl : pl.length ≤ 1024) (hi : (s.port p).inProgress = none) (hr : portRefusal s p code pl = some res) :
    s.serve p code tag pl b owner = s.refuseAtPort p code tag res := by
  have hlen : ¬ (Config.maxPayload < pl.length) := by simpa [Config.maxPayload] using hl
  rcases h with h | h <;> simp [State.serve, State.portsListen, h, hi, hr, hlen]

/-! ## An owner's answer (R192) -/

/-- The answer to the request in progress. -/
theorem State.reply_owed (s : State) (o : Origin) (r : PortRequest) (res : Result) (pl : List Byte)
    (h : (s.port o.port).inProgress = some r) (hs : r.serial = o.serial) :
    s.reply o res pl = settledAt s o r res pl := by
  simp [State.reply, settledAt, h, hs]

/-- The answer to the request in progress at a port, spelled out. -/
theorem State.reply_in_progress (t : State) (p : PortId) (n : Nat) (code tag : Byte) (res : Result) (pl : List Byte)
    (a : Option Asking) (h : (t.port p).inProgress = some ⟨code, tag, n, a⟩) :
    t.reply ⟨p, n⟩ res pl =
      t.setPort p
        { t.port p with
          inProgress := none
          sent := some ⟨code, tag, res, pl⟩
          writeEnable := (t.port p).writeEnable && !protectedCode code } := by
  simp [State.reply, h]

theorem State.reply_eq_concluded (s : State) (o : Origin) (res : Result) (pl : List Byte) :
    s.reply o res pl = concluded s o res pl := by
  cases h : (s.port o.port).inProgress <;> simp [State.reply, concluded, settledAt, h]

/-- An answer to an abandoned request is dropped (R180). -/
theorem State.reply_dropped (s : State) (o : Origin) (res : Result) (pl : List Byte)
    (h : ∀ r, (s.port o.port).inProgress = some r → r.serial ≠ o.serial) : s.reply o res pl = s := by
  simp only [State.reply]
  split
  · rename_i r hr; simp [h r hr]
  · rfl

/-- An answer given in the event of the hand-over, over a state that differs from the waiting one outside the port. -/
theorem State.reply_at_once (s t : State) (p : PortId) (code tag : Byte) (res : Result) (pl : List Byte)
    (h : t.port p = s.port p) :
    (t.setPort p ((waiting s p code tag).port p)).reply (nextOrigin s p) res pl = answered t p code tag res pl := by
  simp [State.reply, waiting, nextOrigin, answered, h]

@[simp] theorem State.reply_waiting (s : State) (p : PortId) (code tag : Byte) (res : Result) (pl : List Byte) :
    (waiting s p code tag).reply (nextOrigin s p) res pl = answered s p code tag res pl := by
  simp [State.reply, waiting, nextOrigin, answered]

/-- An answer changes the ports alone. -/
theorem State.reply_frame (s : State) (o : Origin) (res : Result) (pl : List Byte) :
    s.reply o res pl =
      { s with ulk := (s.reply o res pl).ulk, slk := (s.reply o res pl).slk, opt := (s.reply o res pl).opt } := by
  simp only [State.reply]
  split
  · split
    · exact State.setPort_frame _ _ _
    · rfl
  · rfl

/-! ## Asks (R198, R199, R201, R205) -/

/-- A block's answer to an ask changes the port that asked alone: it joins what is gathered, or concludes the request. -/
theorem State.answerAsk_frame (s : State) (p : PortId) (b : Block) :
    ∃ x, s.answerAsk p b = s.setPort p x := by
  unfold State.answerAsk
  split
  · rename_i r hr
    split
    · split
      · dsimp only
        split
        · rename_i a _ _ _
          cases hg : a.gathered.add s b with
          | read k given =>
            exact ⟨_, by simp only [State.concludeAsk, State.reply, hr, if_true]; rfl⟩
          | latch d =>
            exact ⟨_, by simp only [State.concludeAsk, State.reply, State.port_setPort, hr, if_true,
              State.setPort_setPort]; rfl⟩
        · exact ⟨_, rfl⟩
      · exact ⟨s.port p, (State.setPort_port s p).symm⟩
    · exact ⟨s.port p, (State.setPort_port s p).symm⟩
  · exact ⟨s.port p, (State.setPort_port s p).symm⟩

/-! ## Reports (R202) -/

/-- A report joins the mail of the port it is sent to, where the member belongs to it; nothing else changes. -/
theorem State.report_eq (s : State) (p : PortId) (m : Member) (present : Bool) :
    s.report p m present =
      { s with mail :=
        if belongsTo m p then s.mail.putReports p (s.mail.reports p ++ [⟨m, present⟩]) else s.mail } := by
  unfold State.report
  cases h : belongsTo m p <;> cases p <;> simp [State.setMail, Mail.putReports, Mail.reports]

end Sys2Proof.Machine
end

