-- ==== Sys2Proof/Laws/Requests.lean ====
section
/-! SUPPORT. What the bytes a port receives do: in parts, between frames, without a good frame, and as one whole frame. -/

namespace Sys2Proof.Machine

/-- A port that collects no frame takes a frame whole. -/
theorem State.arrive_between (s : State) (p : PortId) (f : LinkFrame) (take : State → State)
    (h : (s.port p).collecting = []) : s.arrive p f take = take s := if_pos h

/-- While a port collects a frame, the bytes of another are data (R207). -/
theorem State.arrive_inside (s : State) (p : PortId) (f : LinkFrame) (take : State → State)
    (h : (s.port p).collecting ≠ []) : s.arrive p f take = s.receiveBytes p f.bytes := if_neg h

@[simp] theorem State.receiveBytes_nil (s : State) (p : PortId) : s.receiveBytes p [] = s := rfl

/-- Bytes received in two parts are received as in one. -/
theorem State.receiveBytes_append (s : State) (p : PortId) (a b : List Byte) :
    s.receiveBytes p (a ++ b) = (s.receiveBytes p a).receiveBytes p b := List.foldl_append ..

/-- In HOLDUP and BACKUP a port receives nothing (R180, R183). -/
theorem State.receiveBytes_deaf (s : State) (p : PortId) (bytes : List Byte) (h : s.portsListen = false) :
    s.receiveBytes p bytes = s := by
  induction bytes with
  | nil => rfl
  | cons b t ih =>
    have hb : s.receiveByte p b = s := by simp [State.receiveByte, h]
    rw [State.receiveBytes, List.foldl_cons, hb]
    exact ih

@[simp] theorem State.portsListen_setPort (s : State) (p : PortId) (x : Port) :
    (s.setPort p x).portsListen = s.portsListen := by
  simp [State.portsListen]

/-- Bytes in which no good frame is completed change what the port collects and nothing else (R193 check 1, R207). -/
theorem State.receiveBytes_quiet (s : State) (p : PortId) (bytes : List Byte) (h : s.portsListen = true)
    (hf : (collect 0x7E#8 linkExtent (s.port p).collecting bytes).2.filterMap parseLinkFrame = []) :
    s.receiveBytes p bytes =
      s.setPort p
        { s.port p with collecting := (collect 0x7E#8 linkExtent (s.port p).collecting bytes).1 } := by
  induction bytes generalizing s with
  | nil => exact (State.setPort_port s p).symm
  | cons b t ih =>
    rw [collect_cons, List.filterMap_append, List.append_eq_nil_iff] at hf
    have hb : s.receiveByte p b =
        s.setPort p
          { s.port p with collecting := (collectByte 0x7E#8 linkExtent (s.port p).collecting b).1 } := by
      simp [State.receiveByte, h, hf.1]
    rw [State.receiveBytes, List.foldl_cons, hb]
    have hi := ih (s.setPort p
      { s.port p with collecting := (collectByte 0x7E#8 linkExtent (s.port p).collecting b).1 })
      (by simpa using h) (by simpa using hf.2)
    rw [State.receiveBytes] at hi
    rw [hi, collect_cons]
    simp

/-- The bytes of a good frame parse to it (R207). -/
theorem parseLinkFrame_bytes (f : LinkFrame) (h : f.payload.length ≤ 1024) : parseLinkFrame f.bytes = some f := by
  have hb : be 2 f.payload.length
      = [BitVec.ofNat 8 (f.payload.length / 256), BitVec.ofNat 8 f.payload.length] := by simp [be]
  have hl := ofBe_be 2 f.payload.length (by omega)
  rw [hb] at hl
  simp [LinkFrame.bytes, parseLinkFrame, hb, hl, Config.maxPayload, h]

/-- What the first bytes of a good frame say of its length (R207). -/
theorem linkExtent_take (f : LinkFrame) (k : Nat) (h : f.payload.length ≤ 1024) :
    linkExtent (f.bytes.take k) = if k < 3 then .unknown else .whole f.bytes.length := by
  have hb : be 2 f.payload.length
      = [BitVec.ofNat 8 (f.payload.length / 256), BitVec.ofNat 8 f.payload.length] := by simp [be]
  have hl := ofBe_be 2 f.payload.length (by omega)
  rw [hb] at hl
  match k with
  | 0 => rfl
  | 1 => rfl
  | 2 => simp [LinkFrame.bytes, hb, linkExtent]
  | k + 3 => simp [LinkFrame.bytes, hb, linkExtent, hl, Config.maxPayload, h]

/-- One more byte of a good frame: under collection with the others, or the frame whole (R207). -/
theorem collectByte_frame (f : LinkFrame) (k : Nat) (h : f.payload.length ≤ 1024) (hk : k < f.bytes.length) :
    collectByte 0x7E#8 linkExtent (f.bytes.take k) f.bytes[k]
      = if k + 1 < f.bytes.length then (f.bytes.take (k + 1), []) else ([], [f.bytes]) := by
  have h7 : 7 ≤ f.bytes.length := by simp [LinkFrame.bytes]; omega
  have he := linkExtent_take f (k + 1) h
  rw [List.take_succ_eq_append_getElem hk] at he ⊢
  match k with
  | 0 =>
    rw [if_pos (by omega)]
    rfl
  | k + 1 =>
    have hs : f.bytes.take (k + 1) = 0x7E#8 :: (f.bytes.drop 1).take k := rfl
    rw [hs] at he ⊢
    simp only [collectByte, he]
    split <;> rename_i hx
    · rw [if_pos (by split at hx <;> first | omega | exact absurd hx (by simp))]
    · split at hx <;> simp at hx
    · rename_i n
      have hn : n = f.bytes.length := by split at hx <;> simp_all
      have hlen : (0x7E#8 :: (f.bytes.drop 1).take k ++ [f.bytes[k + 1]]).length = k + 2 := by
        rw [← hs, ← List.take_succ_eq_append_getElem hk, List.length_take]; omega
      rw [hlen, hn]
      split <;> rename_i hy
      · rfl
      · rw [← hs, ← List.take_succ_eq_append_getElem hk, List.take_of_length_le (by omega)]

/-- The first bytes of a good frame stay under collection (R207). -/
theorem collect_frame (f : LinkFrame) (k : Nat) (h : f.payload.length ≤ 1024) (hk : k < f.bytes.length) :
    collect 0x7E#8 linkExtent [] (f.bytes.take k) = (f.bytes.take k, []) := by
  induction k with
  | zero => rfl
  | succ k ih =>
    rw [List.take_succ_eq_append_getElem (by omega), collect_append, ih (by omega), collect_cons, collect_nil,
      collectByte_frame f k h (by omega), if_pos hk, List.take_succ_eq_append_getElem (by omega)]
    rfl

/-- A good frame received between frames is taken when its last byte comes, and nothing is left under collection (R207). -/
theorem State.receiveBytes_frame (s : State) (p : PortId) (f : LinkFrame) (hl : s.portsListen = true)
    (hc : (s.port p).collecting = []) (h : f.payload.length ≤ 1024) : s.receiveBytes p f.bytes = s.serveFrame p f := by
  have hk : f.bytes.length - 1 < f.bytes.length := by simp [LinkFrame.bytes]
  have hq := collect_frame f _ h hk
  have hs : f.bytes = f.bytes.take (f.bytes.length - 1) ++ [f.bytes[f.bytes.length - 1]] := by
    rw [← List.take_succ_eq_append_getElem hk, List.take_of_length_le (by omega)]
  have h1 := State.receiveBytes_quiet s p (f.bytes.take (f.bytes.length - 1)) hl (by rw [hc, hq]; rfl)
  rw [hc, hq] at h1
  have hb := collectByte_frame f _ h hk
  rw [if_neg (by omega)] at hb
  have hself : s.setPort p { s.port p with collecting := [] } = s := by
    have : ({ s.port p with collecting := [] } : Port) = s.port p := by rw [← hc]
    rw [this, State.setPort_port]
  rw [hs, State.receiveBytes_append, h1, State.receiveBytes, List.foldl_cons, List.foldl_nil, State.receiveByte,
    State.portsListen_setPort, hl, if_pos rfl, State.port_setPort]
  simp only [hb, List.filterMap_cons, List.filterMap_nil, parseLinkFrame_bytes f h, List.foldl_cons, List.foldl_nil,
    State.setPort_setPort, hself]

/-! ## A request's command and its frame (R208, R209) -/

/-- A frame whose code is not known is refused by its port (R193 check 3). -/
theorem State.serveFrame_unknown (s : State) (p : PortId) (code tag : Byte) (pl : List Byte) (h : knownCode code = false) :
    s.serveFrame p ⟨code, tag, pl⟩ = s.refuseUnknown p code tag pl := by
  revert h
  simp only [State.serveFrame, knownCode]
  intro h
  generalize hn : code.toNat = n at h
  split <;> simp_all

/-- Between frames the command of a request is its frame, taken. -/
theorem exec_eq_serveFrame (c : Instr) (f : RequestFrame) (s : State) (hw : c.wellFormed = true)
    (hf : frameOf c = some f) (hc : (s.port f.port).collecting = []) :
    exec c s = .next (s.serveFrame f.port ⟨f.code, f.tag, f.payload⟩) := by
  cases c <;> simp only [frameOf, Option.some.injEq, reduceCtorEq] at hf <;> subst hf <;>
    simp only [Instr.wellFormed, fitsItem, beq_iff_eq, Bool.and_eq_true, bne_iff_ne, Bool.not_eq_true'] at hw <;>
    first
    | (simp [
        exec, State.arrive_between _ _ _ _ hc, State.serveFrame, execReadStatus, execReadAttention,
        execSetAttentionMask, execLatchRegisters, execReadLatched, execReleaseLatch, execReadLive, execEnableWrite,
        execReadConfig, execReadTime, execSetTime, execAdjustTime, execReadCalendar, execBeginCalendar,
        execLoadDayProfile, execLoadWeek, execLoadSpecialDay, execCommitCalendar, execAbortCalendar, execReadProfile,
        execAckProfile, execReadProfileAt, execFreeze, execReadFrozen, execPostDirective, execCancelDirective,
        execAckSetpoint, execRecloseRequest, execReadExportStatus, execReadDirectives, execClearRegisters,
        execSetProtection, execCloseCommissioning, execReadIdentity, execClearTamper, execRestart]
       done)
    | (simp [
        exec, State.arrive_between _ _ _ _ hc, State.serveFrame, serveWriteConfig, knownItem, hw,
        execWriteConfigSlotMap, execWriteConfigNettingMode, execWriteConfigIntervalLength, execWriteConfigBillingDay,
        execWriteConfigStaticConnectionLimit, execWriteConfigExportTolerance, execWriteConfigGrace,
        execWriteConfigAcknowledgementTime, execWriteConfigMinimumOpenTime, execWriteConfigUtilityThreshold,
        execWriteConfigSiteThreshold]
       done)
    | skip
  case utilityHoldOn p tag pl =>
    simp only [exec, execUtilityHoldOn, if_neg hw.2, State.arrive_between _ _ _ _ hc]
    rfl
  case utilityHoldOff p tag pl =>
    simp only [exec, execUtilityHoldOff, if_neg hw.2, State.arrive_between _ _ _ _ hc]
    rfl
  case writeConfigUnknownItem p tag pl =>
    simp only [exec, execWriteConfigUnknownItem, hw.2, State.arrive_between _ _ _ _ hc]
    cases pl <;> simp_all [State.serveFrame, serveWriteConfig]

end Sys2Proof.Machine
end

