-- ==== Sys2Proof/Tests/Slice0.lean ====
section
/-! SUPPORT. Tests: the way from power-on to State.reset, the WellFormed smoke test, worked values of the spec, and for every
statement with hypotheses a concrete state and operands that meet them, clause by clause. -/

namespace Sys2Proof.Tests

open Sys2Proof.Machine

/-! ## Small states -/

/-- Whether a port hands a request to its owner. -/
def admits (s : State) (p : PortId) (code : Byte) (pl : List Byte) : Bool :=
  s.ssv.supply == .mains && (s.port p).inProgress == none && decide (pl.length ≤ 1024) && portRefusal s p code pl == none
    && (s.port p).collecting == []

theorem admitted_of (s : State) (p : PortId) (code : Byte) (pl : List Byte) (h : admits s p code pl = true) :
    Admitted s p code pl := by
  simp only [admits, Bool.and_eq_true, beq_iff_eq, decide_eq_true_eq] at h
  exact ⟨h.1.1.1.1, h.1.1.1.2, h.1.1.2, h.1.2, h.2⟩

/-- The state after reset. -/
def reset0 : State := State.reset

/-- With the write-enable latch of the Utility Link set. -/
def enabled (s : State) : State := s.setUlk { s.ulk with writeEnable := true }

/-- At a VALID time. -/
def atTime (t : Nat) (s : State) : State := s.setCck { s.cck with time := t, valid := true }

/-- In another supply state. -/
def supplied (x : Supply) (s : State) : State := s.setSsv { s.ssv with supply := x }

/-- With a report of DSC in transit. -/
def told (c : Client) (e : StoreEvent) (rs : List IntervalRecord) (fs : Option FrozenSet) (s : State) : State :=
  s.setMail { s.mail with store := [⟨c, e, rs, fs⟩] }

/-- The request that ULK serves with its first serial number. -/
def first : Origin := ⟨.ulk, 1⟩

/-- A calendar with one day profile for every weekday and two special days. -/
def calendar : Calendar :=
  { id := 0x31, defaultBand := 1, activation := 0
    profiles := #v[some [⟨0, 1⟩, ⟨420, 4⟩, ⟨1020, 2⟩], some [⟨0, 3⟩], none, none, none, none, none, none]
    week := #v[some 0, some 0, some 0, some 0, some 0, some 0, some 0]
    specials := [⟨12, 25, none, 1⟩, ⟨1, 1, some 2024, 1⟩] }

/-- With a waiting calendar and its boundary. -/
def withWaiting (b : Option Nat) (s : State) : State :=
  s.setTcu { s.tcu with slot := .waiting ⟨calendar, 1⟩, boundary := b }

/-- With an open session over a staged calendar. -/
def withSession (s : State) : State := s.setTcu { s.tcu with slot := .loading calendar, sessionMs := some 1 }

/-- With the messages of one owner of a due slot. -/
def clocked (o : Owner) (l : List ClockMail) (s : State) : State := s.setMail (s.mail.putClock o l)

/-- A change of time to the present time 900, VALID. -/
def notice (k : ChangeKind) : Notice := ⟨k, 100, 900, 0, 1, false, true⟩

/-- An interval record. -/
def record : IntervalRecord := ⟨1, 0, 0, 1, 900, 0, 0, none, none, Quality.none⟩

/-- A frozen set. -/
def set1 : FrozenSet := ⟨1, 0, 0, .requested, none, true, none, .zero, .empty⟩

/-- A directive. -/
def directive (id priority seq : Nat) : Directive := ⟨id, 1000, 0, none, priority, seq, true⟩

/-- Eight directives in list order. -/
def eight : List Directive :=
  [directive 1 0 8, directive 2 1 7, directive 3 1 6, directive 4 2 5, directive 5 3 4, directive 6 3 3, directive 7 4 2,
    directive 8 4 1]

/-- Commands run one after another. -/
def runAll : List Instr → State → State
  | [], s => s
  | c :: t, s =>
    match exec c s with
    | .next u => runAll t u
    | _ => s

/-! ## From power-on to State.reset (log 1) -/

/-- A first COLD restart, event by event. -/
def boot : State :=
  runAll
    [.mainsGood, .gatingTimerExpiry, .resumption, .ipuResumption, .tcuResumption, .bfuResumption, .ecuResumption,
      .cvmResumption, .serviceEntry]
    State.powerOn

theorem test_boot_measurement_units :
    boot.mfp = State.reset.mfp ∧ boot.nau = State.reset.nau ∧ boot.cck = State.reset.cck ∧ boot.ipu = State.reset.ipu :=
  ⟨rfl, rfl, rfl, rfl⟩

theorem test_boot_tariff_and_export_units :
    boot.tcu = State.reset.tcu ∧ boot.bfu = State.reset.bfu ∧ boot.ecu = State.reset.ecu ∧ boot.cvm = State.reset.cvm :=
  ⟨rfl, rfl, rfl, rfl⟩

theorem test_boot_store_and_supply :
    boot.dsc = State.reset.dsc ∧ boot.ssv = State.reset.ssv ∧ boot.store = State.reset.store
    ∧ boot.mail = State.reset.mail :=
  ⟨rfl, rfl, rfl, rfl⟩

theorem test_boot_ports :
    boot.ulk = State.reset.ulk ∧ boot.slk = State.reset.slk ∧ boot.opt = State.reset.opt
    ∧ boot.exportPermit = State.reset.exportPermit ∧ boot.coverSwitch = State.reset.coverSwitch :=
  ⟨rfl, rfl, rfl, rfl, rfl⟩

/-! ## WellFormed: for each check a term it refuses -/

theorem test_wellFormed_payload_too_long :
    (Instr.readStatus .ulk 0 (List.replicate 1025 0)).wellFormed = false
    ∧ (Instr.readStatus .ulk 0 (List.replicate 1024 0)).wellFormed = true := by decide +kernel

theorem test_wellFormed_item_length :
    (Instr.writeConfigSlotMap .ulk 0 [0, 0, 0, 0, 0, 0]).wellFormed = false
    ∧ (Instr.writeConfigNettingMode .ulk 0 []).wellFormed = false
    ∧ (Instr.writeConfigIntervalLength .ulk 0 [0, 5]).wellFormed = false
    ∧ (Instr.writeConfigBillingDay .ulk 0 []).wellFormed = false
    ∧ (Instr.writeConfigStaticConnectionLimit .ulk 0 [1, 2, 3]).wellFormed = false
    ∧ (Instr.writeConfigExportTolerance .ulk 0 [1]).wellFormed = false
    ∧ (Instr.writeConfigGrace .ulk 0 [1, 2]).wellFormed = false
    ∧ (Instr.writeConfigAcknowledgementTime .ulk 0 [1]).wellFormed = false
    ∧ (Instr.writeConfigMinimumOpenTime .ulk 0 [1]).wellFormed = false
    ∧ (Instr.writeConfigUtilityThreshold .ulk 0 [1]).wellFormed = false
    ∧ (Instr.writeConfigSiteThreshold .ulk 0 [1, 2, 3]).wellFormed = false := by decide

theorem test_wellFormed_item_known : (Instr.writeConfigUnknownItem .ulk 0 [3, 15]).wellFormed = false := by decide

theorem test_wellFormed_hold_value :
    (Instr.utilityHoldOn .ulk 0 [0]).wellFormed = false ∧ (Instr.utilityHoldOff .ulk 0 [1]).wellFormed = false := by decide

theorem test_wellFormed_code_known : (Instr.unknownRequestCode .ulk 0x20 0 []).wellFormed = false := by decide

theorem test_wellFormed_frame_good :
    (Instr.linkFrameDiscarded .ulk (0x7E#8 :: ([0, 0, 1, 0] ++ crcBytes [0, 0, 1, 0]))).wellFormed = false := by
  decide +kernel

/-! ## Values the spec works out -/

/-- The CRC-16 of the nine digits "123456789" under the parameters of R207. -/
theorem test_crc_check_value : crc16 [0x31, 0x32, 0x33, 0x34, 0x35, 0x36, 0x37, 0x38, 0x39] = 0x29B1#16 := by
  decide +kernel

theorem test_weekday_of_day_zero : weekday 0 = 5 ∧ dateOf 0 = ⟨2000, 1, 1⟩ := by decide +kernel

theorem test_last_time : dateOf 4294967295 = ⟨2136, 2, 7⟩ ∧ secondOfDay 4294967295 = 23295 := by decide +kernel

theorem test_frame_boundaries_of_the_valid_range :
    (decodeFrame ⟨.phaseA, .unused, .unused, .unused, .unused, .unused, .unused⟩
      ([0, 1, 0, 0] ++ beSigned (-50000) ++ List.replicate 24 0)).fault = false
    ∧ (decodeFrame ⟨.phaseA, .unused, .unused, .unused, .unused, .unused, .unused⟩
      ([0, 1, 0, 0] ++ beSigned (-50001) ++ List.replicate 24 0)).fault = true
    ∧ (decodeFrame ⟨.gen, .unused, .unused, .unused, .unused, .unused, .unused⟩
      ([0, 1, 0, 0] ++ be 4 50001 ++ List.replicate 24 0)).fault = true := by decide +kernel

/-! ## A state and operands for every statement with hypotheses: the queue, NAU, MFP, CCK -/

theorem test_hyps_WellFormedCommandCompletes :
    (Instr.readTime .ulk 0 []).wellFormed = true
    ∧ exec (.utilityHoldOn .ulk 0 [0]) reset0 = .refused .illFormed
    ∧ knownCode 0x20 = true ∧ knownItem [3, 15] = true
    ∧ linkFrames (0x7E#8 :: ([0, 0, 1, 0] ++ crcBytes [0, 0, 1, 0])) ≠ [] := by
  refine ⟨rfl, rfl, rfl, rfl, ?_⟩
  decide +kernel

theorem test_hyps_EmptyQueueStepPassesMillisecond :
    let s := reset0.setCck { reset0.cck with phaseMs := 998 }
    s.pending = [] ∧ s.ssv.supply = .mains ∧ s.cck.phaseMs + 1 < 1000 ∧ s.tcu.sessionMs = none
    ∧ s.mfp.deadline = some 1500 ∧ s.mfp.timer + 1 < 1500 ∧ (∀ p ∈ [PortId.ulk, .slk, .opt], (s.port p).asked = []) := by
  decide +kernel

theorem test_hyps_EpochIncrementCarried :
    let inc : Increment := ⟨some (-50000), some 50000, none, some 999, 0, false⟩
    let s := reset0.setMail { reset0.mail with nauEpochs := [inc] }
    s.ssv.supply = .mains ∧ s.mail.nauEpochs = inc :: [] := ⟨rfl, rfl⟩

theorem test_hyps_IntervalReportsTaken :
    let a := reset0.setMail { reset0.mail with nauCloses := [.close, .demand ⟨6, 5, 5, 900⟩], mfpCloses := 1 }
    let b := reset0.setMail { reset0.mail with nauCloses := [.demand ⟨1, 0, 1, 900⟩] }
    a.mail.nauCloses = .close :: [.demand ⟨6, 5, 5, 900⟩] ∧ a.mail.mfpCloses = 0 + 1
    ∧ b.mail.nauCloses = .demand ⟨1, 0, 1, 900⟩ :: [] := ⟨rfl, rfl, rfl⟩

theorem test_hyps_ClearRegistersByLifecycle :
    Admitted (enabled reset0) .ulk 0x70 [] ∧ (enabled reset0).dsc.lifecycle = .commissioning
    ∧ Admitted ((enabled reset0).setDsc { reset0.dsc with lifecycle := .inService }) .ulk 0x70 []
    ∧ ((enabled reset0).setDsc { reset0.dsc with lifecycle := .inService }).dsc.lifecycle = .inService :=
  ⟨admitted_of _ _ _ _ rfl, rfl, admitted_of _ _ _ _ rfl, rfl⟩

/-- MFP LOCKED, expecting sequence number 0. -/
def locked : State := reset0.setMfp { reset0.mfp with port := .locked, expected := some 0 }

theorem test_hyps_MeasurementFrameTaken :
    let slots (b : Byte) : List Byte := b :: List.replicate 31 0
    let discards (b : Byte) : Prop :=
      locked.mfp.port = .locked ∧ locked.mfp.rebase = false
        ∧ 4 ≤ (((slots b).headD 0).toNat % 16 + 16 - locked.mfp.expected.getD 0) % 16
    locked.ssv.supply = .mains ∧ (∀ b, (slots b).length = 32) ∧ discards 4 ∧ ¬ discards 3
    ∧ State.powerOn.ssv.supply ≠ .mains ∧ locked.mfp.collecting = [] :=
  ⟨rfl, fun _ => rfl, by decide, by decide, by decide, rfl⟩

/-- A frame of 32 zero slot bytes whose check is 0 is no good frame. -/
theorem zero_check_bad (x : List Byte) : 0xA5#8 :: 32#8 :: List.replicate 34 0#8 ≠ measurementBytes x := by
  intro h
  have e : List.replicate 34 (0#8) = x ++ crcBytes (32#8 :: x) := by
    simpa [measurementBytes] using h
  have l : x.length = 32 := by
    have := congrArg List.length e
    simp at this
    omega
  have hx : x = List.replicate 32 (0#8) := by
    have := congrArg (List.take 32) e
    simpa [List.take_append, l] using this.symm
  subst hx
  revert e
  decide +kernel

theorem test_hyps_MeasurementFrameTaken_collection :
    let good := measurementBytes (List.replicate 32 0)
    (∀ b ∈ [0x00#8, 0x7E#8, 0xFF#8], b ≠ 0xA5#8) ∧ (31#8 : Byte) ≠ 32#8 ∧ (33#8 : Byte) ≠ 32#8
    ∧ (List.replicate 33 (0#8)).length < 34 ∧ (List.replicate 34 (0#8)).length = 34
    ∧ (∀ slots : List Byte, 0xA5#8 :: 32#8 :: List.replicate 34 0#8 ≠ measurementBytes slots)
    ∧ good.length = 36 := by
  refine ⟨by decide, by decide, by decide, by decide, by decide, zero_check_bad, by decide +kernel⟩

/-- A frame that arrives in two parts, behind bytes between frames and a bad length, is taken whole. -/
theorem test_frame_over_two_arrivals :
    let good := measurementBytes (List.replicate 32 0)
    let parts : List Instr := [.measurementFrame ([0x00, 0xA5, 0x21] ++ good.take 10), .measurementFrame (good.drop 10)]
    (runAll parts locked).mfp.expected = some 1
    ∧ (runAll parts locked).mfp.collecting = []
    ∧ (runAll (parts.take 1) locked).mfp.expected = some 0
    ∧ (runAll (parts.take 1) locked).mfp.collecting = good.take 10 := by decide +kernel

theorem test_hyps_FrameDecodedUnderMap :
    let m : SlotMap := ⟨.phaseA, .gen, .unused, .unused, .unused, .unused, .unused⟩
    (decodeFrame m ([0, 1, 0, 0] ++ beSigned 50000 ++ be 4 50000 ++ List.replicate 20 0)).fault = false
    ∧ (decodeFrame m ([0, 1, 0, 0] ++ beSigned 50001 ++ be 4 0 ++ List.replicate 20 0)).fault = true := by
  decide +kernel

theorem test_hyps_FrameDeadlineExpires : reset0.ssv.supply = .mains ∧ reset0.mfp.deadline = some 1500 := ⟨rfl, rfl⟩

theorem test_hyps_ReadTimeAnswersClock : Admitted reset0 .opt 0x20 [] := admitted_of _ _ _ _ rfl

theorem test_hyps_SetTimeChangesClock : Admitted (enabled reset0) .ulk 0x21 [0xFF, 0xFF, 0xFF, 0xFF] :=
  admitted_of _ _ _ _ rfl

theorem test_hyps_AdjustTimeByKind :
    let s := atTime 100 reset0
    let small (t delta : Int) : Prop := delta.natAbs ≤ 30 ∧ 100 / 900 = t.toNat / 900 ∧ OpenInterval.first.start ≤ t.toNat
    Admitted reset0 .ulk 0x22 [0, 0, 0, 1] ∧ Admitted s .ulk 0x22 [0, 0, 0, 30] ∧ s.ipu.interval = some .first
    ∧ reset0.cck.valid = false ∧ s.cck.valid = true ∧ signed32 (ofBe [0, 0, 0, 0]) = 0
    ∧ signed32 (ofBe [0, 0, 0, 30]) = 30 ∧ small 130 30 ∧ ¬ small 131 31
    ∧ signed32 (ofBe [0xFF, 0xFF, 0xFF, 0x9B]) = -101 := by
  refine ⟨admitted_of _ _ _ _ rfl, admitted_of _ _ _ _ rfl, rfl, rfl, rfl, ?_, ?_, ?_, ?_, ?_⟩ <;> decide +kernel

theorem test_hyps_ClockAdvances :
    let s (t : Nat) := reset0.setCck { reset0.cck with time := t }
    (s 898).ssv.supply = .mains ∧ (s 898).cck.time < 4294967295 ∧ (∀ o, (s 898).noticeWaits o = false)
    ∧ (s 898).cck.due.get .tcu = none ∧ (s 898).cck.due.get .ipu = some 900 ∧ (s 898).cck.time + 1 < 900
    ∧ (s 899).cck.due.get .ipu = some 900 ∧ 900 ≤ (s 899).cck.time + 1 ∧ (s 4294967295).cck.time = 4294967295 := by
  refine ⟨rfl, by decide, ?_, rfl, rfl, by decide, rfl, by decide, rfl⟩
  intro o; cases o <;> rfl

theorem test_hyps_ClockAdvances_waiting :
    let s := clocked .ipu [.notice (notice .set)] (atTime 899 reset0)
    s.ssv.supply = .mains ∧ s.noticeWaits .ipu = true ∧ s.cck.due.get .ipu = some 900 ∧ s.noticeWaits .tcu = false
    ∧ (runAll [.clockAdvance] s).cck.due.get .ipu = some 900 := ⟨rfl, rfl, rfl, rfl, rfl⟩

theorem test_hyps_ClockAdvances_arming :
    (atTime 900 reset0).noticeWaits .tcu = false ∧ (atTime 900 reset0).cck.time < 901 ∧ 900 ≤ (atTime 900 reset0).cck.time :=
  ⟨rfl, by decide, by decide⟩

/-- The notice of a later change, from 950, waits behind a due event. -/
theorem test_hyps_ClockAdvances_turn :
    let later : Notice := ⟨.adjust, 950, 100, 1, 2, true, true⟩
    let due : ClockMail := .due ⟨800, 800, 1, .byAdvance⟩
    let s := clocked .tcu [due, .notice later] (atTime 100 reset0)
    s.mail.clock .tcu = [due] ++ .notice later :: [] ∧ (∀ m, ClockMail.notice m ∉ [due])
    ∧ 950 ≤ later.oldTime ∧ later.oldTime < 951 ∧ (∀ n, ClockMail.notice n ∉ reset0.mail.clock .tcu)
    ∧ (s.armInTurn .tcu (some 950) .byChange).mail.clockTcu = [due, .due ⟨950, 950, 1, .byChange⟩, .notice later]
    ∧ (s.armInTurn .tcu (some 951) .byChange).cck.due.tcu = some 951 := by
  refine ⟨rfl, fun m h => ?_, by decide, by decide, fun _ h => (by cases h), rfl, rfl⟩
  cases h with | tail _ h => cases h

/-! ## TCU -/

theorem test_hyps_BandAndBoundaryDecided_band :
    let u : Tcu := { Tcu.blank with active := some ⟨calendar, 1⟩ }
    let t := 9568 * 86400 + 25200
    calendar.profileFor (dateOf t) (weekday t) = some 0
    ∧ calendar.profiles.toList[0]? = some (some [⟨0, 1⟩, ⟨420, 4⟩, ⟨1020, 2⟩])
    ∧ [(⟨0, 1⟩ : SwitchPoint), ⟨420, 4⟩, ⟨1020, 2⟩].Pairwise (fun a b => a.minute < b.minute)
    ∧ 420 ≤ t % 86400 / 60 ∧ t % 86400 / 60 < 1020 ∧ u.active = some ⟨calendar, 1⟩ ∧ Tcu.blank.active = none := by
  decide +kernel

theorem test_hyps_BandAndBoundaryDecided_days :
    calendar.specials.Pairwise (fun a b => a.sameDate b = false)
    ∧ ⟨12, 25, none, 1⟩ ∈ calendar.specials ∧ ⟨1, 1, some 2024, 1⟩ ∈ calendar.specials
    ∧ (∀ y ∈ calendar.specials, y.month = 12 → y.day = 25 → y.year ≠ some 2030)
    ∧ (∀ x ∈ calendar.specials, x.month = 3 → x.day = 4 → x.year ≠ some 2030 ∧ x.year ≠ none)
    ∧ calendar.week.toList[6]? = some (some 0) := by decide +kernel

theorem test_hyps_BandAndBoundaryDecided_boundary :
    0 < 5 ∧ (withWaiting none reset0).tcu.slot = .waiting ⟨calendar, 1⟩
    ∧ ∀ r, reset0.tcu.slot ≠ .waiting r := ⟨by decide, rfl, fun _ h => by cases h⟩

/-- A calendar whose weekdays but Monday have no loaded profile. -/
def sparse : Calendar :=
  { calendar with week := #v[some 0, some 7, none, none, none, none, none], specials := [] }

/-- Day 2 is a Monday, day 3 a Tuesday and day 4 a Wednesday. -/
theorem test_hyps_BandAndBoundaryDecided_due :
    let u : Tcu := { Tcu.blank with active := some ⟨sparse, 1⟩, boundary := some 900 }
    let monday := 2 * 86400
    u.active = some ⟨sparse, 1⟩ ∧ Tcu.blank.active = none
    ∧ sparse.profileFor (dateOf monday) (weekday monday) = some 0
    ∧ sparse.profiles.toList[0]? = some (some [⟨0, 1⟩, ⟨420, 4⟩, ⟨1020, 2⟩])
    ∧ sparse.profileFor (dateOf (3 * 86400)) (weekday (3 * 86400)) = some 7 ∧ sparse.profiles.toList[7]? = some none
    ∧ sparse.profileFor (dateOf (4 * 86400)) (weekday (4 * 86400)) = none
    ∧ (∀ q ∈ sparse.pointsAt (monday + 1020 * 60), q.minute ≤ (monday + 1020 * 60) % 86400 / 60)
    ∧ (sparse.pointsAt (monday + 1020 * 60 - 1))[2]? = some ⟨1020, 2⟩
    ∧ (monday + 1020 * 60 - 1) % 86400 / 60 < 1020
    ∧ (∀ j : Fin 2, ∀ q' ∈ (sparse.pointsAt (monday + 1020 * 60 - 1))[j.val]?,
        q'.minute ≤ (monday + 1020 * 60 - 1) % 86400 / 60) := by decide +kernel

/-- At 900 with a due event for TCU. -/
def tariffDue (b : Option Nat) : State :=
  clocked .tcu [.due ⟨900, 900, 0, .byAdvance⟩] (withWaiting b (atTime 900 reset0))

theorem test_hyps_TariffDueEventTaken :
    (tariffDue (some 901)).ssv.supply = .mains
    ∧ (tariffDue (some 901)).mail.clockTcu = .due ⟨900, 900, 0, .byAdvance⟩ :: []
    ∧ (∀ b, (tariffDue (some 901)).tcu.boundary = some b → (tariffDue (some 901)).cck.time < b)
    ∧ (tariffDue (some 900)).mail.clockTcu = .due ⟨900, 900, 0, .byAdvance⟩ :: []
    ∧ (tariffDue (some 900)).tcu.slot = .waiting ⟨calendar, 1⟩ ∧ (tariffDue (some 900)).tcu.boundary = some 900
    ∧ (tariffDue (some 900)).cck.time = 900 ∧ (tariffDue (some 900)).dsc.fault = false
    ∧ (∀ n, ClockMail.notice n ∈ [] → n.oldTime ≤ 900) := by
  refine ⟨rfl, rfl, ?_, rfl, rfl, rfl, rfl, rfl, fun _ h => (by cases h)⟩
  intro b h
  injection h with h
  subst h; decide

/-- A due event of 900 taken at 950, with the store in FAULT or not. -/
theorem test_hyps_TariffDueEventTaken_late :
    let late (b : Nat) (bad : Bool) : State :=
      ((tariffDue (some b)).setCck { (tariffDue (some b)).cck with time := 950 }).setDsc { reset0.dsc with fault := bad }
    (late 900 true).mail.clockTcu = .due ⟨900, 900, 0, .byAdvance⟩ :: [] ∧ (late 900 true).ssv.supply = .mains
    ∧ (late 900 true).tcu.slot = .waiting ⟨calendar, 1⟩ ∧ (late 900 true).tcu.boundary = some 900
    ∧ (late 900 true).dsc.fault = true ∧ (late 900 false).dsc.fault = false ∧ (late 940 true).tcu.boundary = some 940 :=
  ⟨rfl, rfl, rfl, rfl, rfl, rfl, rfl⟩

theorem test_hyps_TariffNoticeTaken :
    let s := clocked .tcu [.notice (notice .set)] (atTime 900 reset0)
    let t := reset0.setMail { reset0.mail with tcuLengths := 1 }
    s.ssv.supply = .mains ∧ 0 < s.ipu.length ∧ s.mail.clockTcu = .notice (notice .set) :: []
    ∧ (notice .set).newTime = s.cck.time ∧ (∀ m, ClockMail.notice m ∈ [] → m.oldTime ≤ (notice .set).newTime)
    ∧ t.mail.tcuLengths = 0 + 1 := ⟨rfl, by decide, rfl, rfl, fun _ h => (by cases h), rfl⟩

theorem test_hyps_BeginCalendarOpensSession :
    Admitted (enabled reset0) .ulk 0x31 [0, 1, 1, 0, 0, 0, 0] ∧ (enabled reset0).tcu.slot = .empty
    ∧ Admitted (enabled (withWaiting (some 900) reset0)) .ulk 0x31 [0, 1, 1, 0, 0, 0, 0]
    ∧ (enabled (withWaiting (some 900) reset0)).tcu.slot = .waiting ⟨calendar, 1⟩ :=
  ⟨admitted_of _ _ _ _ rfl, rfl, admitted_of _ _ _ _ rfl, rfl⟩

theorem test_hyps_SessionLoadsStagedCalendar_profiles :
    (withSession reset0).tcu.slot = .loading calendar
    ∧ Admitted (withSession reset0) .ulk 0x32 [7, 1, 5, 0x9F, 6] ∧ readDayProfile [7, 1, 5, 0x9F, 6] = some (7, [⟨1439, 6⟩])
    ∧ Admitted (withSession reset0) .ulk 0x32 [8, 1, 0, 0, 1] ∧ readDayProfile [8, 1, 0, 0, 1] = some (8, [⟨0, 1⟩])
    ∧ readDayProfile [0, 1, 5, 0xA0, 1] = some (0, [⟨1440, 1⟩]) ∧ readDayProfile [0, 0] = some (0, []) := by
  refine ⟨rfl, admitted_of _ _ _ _ rfl, ?_, admitted_of _ _ _ _ rfl, ?_, ?_, ?_⟩ <;> decide +kernel

theorem test_hyps_SessionLoadsStagedCalendar_weeks_and_days :
    Admitted (withSession reset0) .ulk 0x33 [1, 6, 7] ∧ readWeek [1, 6, 7] = some [(6, 7)] ∧ readWeek [1, 7, 0] = some [(7, 0)]
    ∧ Admitted (withSession reset0) .ulk 0x34 [1, 2, 29, 0, 0, 7]
    ∧ readSpecialList [1, 2, 29, 0, 0, 7] = some [⟨2, 29, none, 7⟩] ∧ AllowedDay ⟨2, 29, none, 7⟩
    ∧ readSpecialList [1, 2, 30, 0, 0, 7] = some [⟨2, 30, none, 7⟩] ∧ ¬ AllowedDay ⟨2, 30, none, 7⟩
    ∧ calendar.specials.length + [(⟨2, 29, none, 7⟩ : SpecialDay)].length ≤ 32
    ∧ 32 < (List.replicate 32 (⟨2, 29, none, 7⟩ : SpecialDay)).length + [(⟨2, 29, none, 7⟩ : SpecialDay)].length := by
  refine ⟨admitted_of _ _ _ _ rfl, ?_, ?_, admitted_of _ _ _ _ rfl, ?_, ?_, ?_, ?_, ?_, ?_⟩
  · decide +kernel
  · decide +kernel
  · decide +kernel
  · exact ⟨by decide, by decide, (fun _ h => by cases h), by decide, by decide, by decide⟩
  · decide +kernel
  · exact fun h => absurd h.2.2.2.2.1 (by decide)
  · decide +kernel
  · decide +kernel

/-- 29 February is a day of a leap year alone; the last year of the clock's range is 2135 for a special day. -/
theorem test_special_day_ranges :
    (⟨2, 29, some 2024, 0⟩ : SpecialDay).inRange = true ∧ (⟨2, 29, some 2100, 0⟩ : SpecialDay).inRange = false
    ∧ (⟨12, 31, some 2135, 7⟩ : SpecialDay).inRange = true ∧ (⟨1, 1, some 2136, 0⟩ : SpecialDay).inRange = false := by
  decide +kernel

theorem test_hyps_SessionEndsEmpty :
    Admitted (withSession reset0) .ulk 0x36 [] ∧ (withSession reset0).tcu.slot = .loading calendar
    ∧ (withSession reset0).ssv.supply = .mains ∧ (withSession reset0).tcu.sessionMs = some 1 :=
  ⟨admitted_of _ _ _ _ rfl, rfl, rfl, rfl⟩

theorem test_hyps_CommitCalendarJudges :
    Admitted (withSession reset0) .ulk 0x35 [] ∧ (withSession reset0).tcu.slot = .loading calendar
    ∧ calendar.validate [15] = none
    ∧ { calendar with defaultBand := 7 }.validate [15] = some (.defaultBandBad, none)
    ∧ { calendar with specials := [⟨1, 1, none, 2⟩] }.validate [15] = some (.profileMissing, some 0x80) := by
  refine ⟨admitted_of _ _ _ _ rfl, rfl, ?_, ?_, ?_⟩ <;> decide +kernel

/-- A calendar that passes every check but for the part a test changes. -/
def checked (p0 : List SwitchPoint) (week : Vector (Option Nat) 7) (specials : List SpecialDay) : Calendar :=
  { calendar with profiles := #v[some p0, some [⟨0, 3⟩], none, none, none, none, none, none], week := week, specials := specials }

/-- For each check of R69 a calendar that fails it and passes those before it. -/
theorem test_hyps_ValidationAcceptsValidCalendars :
    let week := calendar.week
    let ok : List SwitchPoint := [⟨0, 1⟩]
    let refused (c : Calendar) : Option (Reason × Option Nat) := c.validate [15, 30]
    refused { calendar with defaultBand := 0 } = some (.defaultBandBad, none)
    ∧ refused (checked [⟨15, 1⟩] week []) = some (.firstNotMidnight, some 0)
    ∧ refused (checked [⟨0, 1⟩, ⟨30, 1⟩, ⟨30, 2⟩] week []) = some (.notAscending, some 0)
    ∧ refused (checked [⟨0, 7⟩] week []) = some (.badBand, some 0)
    ∧ refused (checked [⟨0, 1⟩, ⟨15, 2⟩] week []) = some (.misalignedSwitch, some 0)
    ∧ refused (checked ok #v[some 0, some 0, some 0, some 0, some 0, some 0, none] []) = some (.weekIncomplete, some 6)
    ∧ refused (checked ok #v[some 0, some 2, some 0, some 0, some 0, some 0, some 0] []) = some (.profileMissing, some 1)
    ∧ refused (checked ok week [⟨1, 1, none, 1⟩, ⟨1, 2, none, 7⟩]) = some (.profileMissing, some 129)
    ∧ refused (checked ok week [⟨1, 1, none, 1⟩, ⟨1, 1, some 2024, 1⟩, ⟨1, 1, none, 0⟩]) = some (.duplicateDate, some 2)
    ∧ refused (checked ok week [⟨1, 1, none, 1⟩]) = none := by decide +kernel

theorem test_hyps_CalendarWriteOutcomes :
    let acting (a : StoreAction) (s : State) : State := s.setTcu { s.tcu with action := a }
    let d := acting (.discardErase ⟨calendar, 1⟩ 0) (withSession reset0)
    let c := acting (.commitWrite 2 calendar) (withSession reset0)
    d.ssv.supply = .mains ∧ 0 < d.ipu.length ∧ d.tcu.slot = .loading calendar
    ∧ Delivers (told (.calendarErase first) .completed [] none d) .tcu ⟨.calendarErase first, .completed, [], none⟩ []
    ∧ Delivers (told (.calendarErase first) .refused [] none d) .tcu ⟨.calendarErase first, .refused, [], none⟩ []
    ∧ Delivers (told (.calendarWrite 2 first) .completed [] none c) .tcu ⟨.calendarWrite 2 first, .completed, [], none⟩ []
    ∧ Delivers (told (.calendarWrite 2 first) .refused [] none c) .tcu ⟨.calendarWrite 2 first, .refused, [], none⟩ [] :=
  ⟨rfl, by decide, rfl, rfl, rfl, rfl, rfl⟩

theorem test_hyps_ReadCalendarAnswersPart :
    let s := reset0.setTcu { reset0.tcu with active := some ⟨calendar, 1⟩ }
    Admitted s .slk 0x30 [0, 12] ∧ s.tcu.active = some ⟨calendar, 1⟩ ∧ (12#8).toNat ≤ 12
    ∧ Admitted s .ulk 0x30 [0, 13] ∧ 12 < (13#8).toNat ∧ Admitted reset0 .ulk 0x30 [1, 0] ∧ reset0.tcu.active = none :=
  ⟨admitted_of _ _ _ _ rfl, rfl, by decide, admitted_of _ _ _ _ rfl, by decide, admitted_of _ _ _ _ rfl, rfl⟩

theorem test_hyps_ReadCalendarAnswersPart_parts :
    let s := withWaiting none reset0
    Admitted s .opt 0x30 [1, 0] ∧ s.tcu.slot = .waiting ⟨calendar, 1⟩ ∧ Admitted s .ulk 0x30 [1, 1] ∧ Admitted s .ulk 0x30 [1, 8]
    ∧ calendar.profiles.toList[(1#8).toNat - 1]? = some (some [⟨0, 1⟩, ⟨420, 4⟩, ⟨1020, 2⟩])
    ∧ calendar.profiles.toList[(8#8).toNat - 1]? = some none ∧ Admitted s .ulk 0x30 [1, 9] ∧ 9 ≤ (9#8).toNat
    ∧ Admitted s .slk 0x30 [2, 0] :=
  ⟨admitted_of _ _ _ _ rfl, rfl, admitted_of _ _ _ _ rfl, admitted_of _ _ _ _ rfl, rfl, rfl, admitted_of _ _ _ _ rfl,
    by decide, admitted_of _ _ _ _ rfl⟩

/-! ## IPU -/

theorem test_hyps_IntervalOpensAndBuilds :
    0 < Ipu.blank.length ∧ Ipu.blank.numbersSpent = false ∧ Ipu.blank.nextNumber < 4294967295
    ∧ { Ipu.blank with nextNumber := 4294967295 }.numbersSpent = false
    ∧ { Ipu.blank with numbersSpent := true }.numbersSpent = true := by decide

theorem test_hyps_OpenIntervalTakesReports :
    let sp : Split := ⟨540000000, 0, some 5, true, 255⟩
    let s := reset0.setMail { reset0.mail with
      ipuEnergy := [.split sp, .missed], ipuBands := [⟨6, 899⟩], ipuActivations := [⟨900, 1⟩], ipuInterlock := [true]
      ipuTamper := 1 }
    s.ssv.supply = .mains ∧ s.ipu.interval = some .first ∧ s.mail.ipuEnergy = .split sp :: [.missed]
    ∧ s.mail.ipuEnergy = [.split sp] ++ .missed :: [] ∧ (∀ m ∈ [EnergyMail.split sp], m ≠ .missed)
    ∧ s.mail.ipuBands = ⟨6, 899⟩ :: [] ∧ s.mail.ipuActivations = ⟨900, 1⟩ :: [] ∧ s.mail.ipuInterlock = true :: []
    ∧ s.mail.ipuTamper = 0 + 1 := by
  refine ⟨rfl, rfl, rfl, rfl, by decide, rfl, rfl, rfl, rfl⟩

/-- At 900 with the due event of the first interval and a length of 30 minutes pending. -/
def intervalDue : State :=
  let s := clocked .ipu [.due ⟨900, 900, 0, .byAdvance⟩] (atTime 900 reset0)
  s.setIpu { s.ipu with pendingLength := some 30 }

theorem test_hyps_IntervalClosesAtSlotEnd :
    intervalDue.ssv.supply = .mains ∧ intervalDue.mail.clockIpu = .due ⟨900, 900, 0, .byAdvance⟩ :: []
    ∧ intervalDue.ipu.interval = some .first ∧ intervalDue.cck.time < (intervalDue.ipu.opened 900 0 1).slotEnd
    ∧ (∀ n, ClockMail.notice n ∈ [] → n.oldTime < (intervalDue.ipu.opened 900 0 1).slotEnd) := by
  refine ⟨rfl, rfl, rfl, by decide +kernel, fun _ h => (by cases h)⟩

theorem test_hyps_ChangeNoticeAtInterval :
    let s (k : ChangeKind) := clocked .ipu [.notice (notice k)] (atTime 900 reset0)
    let early := atTime 899 (s .trim)
    (s .set).ssv.supply = .mains ∧ (s .set).mail.clockIpu = .notice (notice .set) :: []
    ∧ (s .set).ipu.interval = some .first ∧ (notice .set).newTime = (s .set).cck.time ∧ (notice .set).kind ≠ .trim
    ∧ 0 < (s .set).ipu.pendingLength.getD (s .set).ipu.length ∧ (s .trim).mail.clockIpu = .notice (notice .trim) :: []
    ∧ early.cck.due.ipu = some 900 ∧ early.cck.time < 900 ∧ (∀ m, ClockMail.notice m ∈ [] → m.oldTime < 900) :=
  ⟨rfl, rfl, rfl, rfl, by decide, by decide, rfl, rfl, by decide, fun _ h => (by cases h)⟩

/-- A TRIM, an advance over the slot end and a backward ADJUST before IPU takes the first notice: the slot end is due between
the two notices, the interval closes there, and the ADJUST closes the next one early (R52, R89). -/
theorem test_two_changes_at_interval :
    let trim : Notice := ⟨.trim, 880, 890, 0, 0, true, true⟩
    let back : Notice := ⟨.adjust, 905, 500, 0, 1, true, true⟩
    let s := clocked .ipu [.notice trim, .notice back] (atTime 500 reset0)
    let u := runAll [.ipuChangeNotice, .ipuDueEvent, .ipuChangeNotice] s
    (runAll [.ipuChangeNotice] s).mail.clockIpu = [.due ⟨900, 905, 0, .byChange⟩, .notice back]
    ∧ u.mail.clockIpu = [] ∧ u.ipu.queue.map (fun r => (r.start, r.duration)) = [(0, 900), (900, 5)]
    ∧ u.cck.due.ipu = some 900 := by decide +kernel

/-- With a queued record, the erase-ahead done, and the write position given. -/
def appending (pos : Nat) : State := reset0.setIpu { reset0.ipu with queue := [record], writePos := pos, erase := .idle }

theorem test_hyps_ProfileAppendSettles :
    (appending 127).ssv.supply = .mains ∧ (appending 127).ipu.queue = record :: []
    ∧ Delivers (told .append .refused [] none (appending 127)) .ipu ⟨.append, .refused, [], none⟩ []
    ∧ Delivers (told .append .completed [] none (appending 4223)) .ipu ⟨.append, .completed, [], none⟩ []
    ∧ ((appending 127).ipu.writePos + 1) % 128 = 0 ∧ ((appending 4223).ipu.writePos + 1) % 4224 = 0 :=
  ⟨rfl, rfl, rfl, rfl, rfl, rfl⟩

theorem test_hyps_EraseAheadAtProfile :
    let s := reset0.setIpu { reset0.ipu with ring := [⟨1, 0⟩, ⟨2, 127⟩, ⟨3, 128⟩] }
    s.ssv.supply = .mains
    ∧ Delivers (told (.profileErase 15) .granted [] none s) .ipu ⟨.profileErase 15, .granted, [], none⟩ []
    ∧ s.ipu.ring.filter (fun e => sectorOfSlot e.pos == 17) = []
    ∧ s.ipu.ring.filter (fun e => sectorOfSlot e.pos == 15) = [⟨1, 0⟩, ⟨2, 127⟩]
    ∧ Delivers (told (.profileErase 15) .completed [] none s) .ipu ⟨.profileErase 15, .completed, [], none⟩ []
    ∧ Delivers (told (.profileErase 15) .refused [] none s) .ipu ⟨.profileErase 15, .refused, [], none⟩ [] := by
  refine ⟨rfl, rfl, ?_, ?_, rfl, rfl⟩ <;> decide +kernel

/-- With one record in the ring and the next number 2. -/
def oneRecord : State := reset0.setIpu { reset0.ipu with ring := [⟨1, 0⟩], nextNumber := 2 }

theorem test_hyps_ProfileReadsSelect :
    Admitted oneRecord .slk 0x40 [8] ∧ Admitted oneRecord .ulk 0x40 [0] ∧ Admitted oneRecord .ulk 0x40 [9]
    ∧ Admitted reset0 .ulk 0x40 [1] ∧ reset0.ipu.ring = [] ∧ oneRecord.ipu.ring ≠ []
    ∧ Admitted oneRecord .opt 0x42 [0, 0, 0, 1, 1] ∧ Admitted oneRecord .ulk 0x42 [0, 0, 0, 2, 8]
    ∧ Admitted oneRecord .ulk 0x42 [0, 0, 0, 1, 9]
    ∧ Delivers (told (.profileRead true [1] first) .completed [record] none oneRecord) .ipu
        ⟨.profileRead true [1] ⟨.ulk, 1⟩, .completed, [record], none⟩ [] :=
  ⟨admitted_of _ _ _ _ rfl, admitted_of _ _ _ _ rfl, admitted_of _ _ _ _ rfl, admitted_of _ _ _ _ rfl, rfl, by decide,
    admitted_of _ _ _ _ rfl, admitted_of _ _ _ _ rfl, admitted_of _ _ _ _ rfl, rfl⟩

/-- A slot holds the record's bytes, and an erased one 0xFF; the read keeps none but the records selected (R102). -/
theorem test_hyps_ProfileReadsSelect_slots :
    let s := oneRecord.setStore { oneRecord.store with profile := [(0, .whole record)] }
    s.store.profile.lookup 0 = some (.whole record) ∧ s.store.profile.lookup 1 = none
    ∧ record.bytes.length = 32
    ∧ ((runAll [.profileReadCompletion]
          (told (.profileRead true [2] first) .completed [record] none
            (s.setUlk { s.ulk with inProgress := some ⟨0x40, 0, 1, none⟩ }))).ulk.sent.map fun x => x.payload)
        = some (be 4 1 ++ be 2 0 ++ be 4 2 ++ be 1 0) := by decide +kernel

theorem test_hyps_AckProfileMovesCursor :
    Admitted oneRecord .ulk 0x41 [0, 0, 0, 0] ∧ 0 < oneRecord.ipu.utility.cursor
    ∧ Admitted oneRecord .slk 0x41 [0, 0, 0, 1] ∧ oneRecord.ipu.site.cursor ≤ 1 ∧ 1 < oneRecord.ipu.nextNumber
    ∧ Admitted oneRecord .ulk 0x41 [0, 0, 0, 2] ∧ oneRecord.ipu.queue = [] ∧ oneRecord.ipu.nextNumber ≤ 2 :=
  ⟨admitted_of _ _ _ _ rfl, by decide, admitted_of _ _ _ _ rfl, by decide, by decide, admitted_of _ _ _ _ rfl, rfl,
    by decide⟩

theorem test_hyps_IntervalLengthWrites :
    let s := enabled reset0
    let busy := s.setIpu { s.ipu with underWrite := some 5 }
    let odd := s.setTcu { s.tcu with active := some ⟨{ calendar with
      profiles := #v[some [⟨0, 1⟩, ⟨5, 1⟩], none, none, none, none, none, none, none] }, 1⟩ }
    Admitted s .ulk 0x11 [3, 60] ∧ Admitted busy .ulk 0x11 [3, 60] ∧ busy.ipu.underWrite ≠ none
    ∧ Admitted s .ulk 0x11 [3, 20] ∧ s.ipu.underWrite = none
    ∧ Admitted odd .ulk 0x11 [3, 10] ∧ (∃ m ∈ odd.tcu.switchMinutes, m % 10 ≠ 0)
    ∧ Delivers (told (.lengthWrite 60 15 first) .completed [] none s) .ipu ⟨.lengthWrite 60 15 first, .completed, [], none⟩ []
    ∧ Delivers (told (.lengthWrite 60 15 first) .refused [] none s) .ipu ⟨.lengthWrite 60 15 first, .refused, [], none⟩ []
    ∧ Delivers (told (.lengthRestore 15 first) .completed [] none s) .ipu ⟨.lengthRestore 15 first, .completed, [], none⟩ []
    ∧ Delivers (told (.lengthRestore 15 first) .refused [] none s) .ipu ⟨.lengthRestore 15 first, .refused, [], none⟩ [] := by
  refine ⟨admitted_of _ _ _ _ rfl, admitted_of _ _ _ _ rfl, ?_, admitted_of _ _ _ _ rfl, rfl, admitted_of _ _ _ _ rfl, ?_,
    rfl, rfl, rfl, rfl⟩ <;> decide +kernel

/-! ## BFU -/

theorem test_hyps_FreezeRequestJudged :
    let b (c : Option FrozenSet) (n : Nat) := reset0.setBfu { reset0.bfu with captured := c, counter := n }
    Admitted (b (some set1) 1) .ulk 0x50 [] ∧ (b (some set1) 1).bfu.captured = some set1
    ∧ Admitted (b none 4294967295) .ulk 0x50 [] ∧ (b none 4294967295).bfu.counter = 4294967295
    ∧ Admitted (b none 4294967294) .ulk 0x50 [] ∧ (b none 4294967294).bfu.captured = none
    ∧ (b none 4294967294).bfu.counter ≠ 4294967295 :=
  ⟨admitted_of _ _ _ _ rfl, rfl, admitted_of _ _ _ _ rfl, rfl, admitted_of _ _ _ _ rfl, rfl, by decide⟩

/-- At 00:00:00 of 2000-01-02 with billing day 2 and a due event for BFU. -/
def billingDue (c : Option FrozenSet) (last : Option Date) : State :=
  (clocked .bfu [.due ⟨86400, 86400, 0, .byAdvance⟩] (atTime 86400 reset0)).setBfu
    { reset0.bfu with billingDay := 2, captured := c, lastDate := last }

theorem test_hyps_BillingDueClaimsInstant :
    let s := billingDue none none
    let armed (last : Option Date) : Option Nat := { s.bfu with lastDate := last }.dueTime 86400 true
    s.ssv.supply = .mains ∧ s.mail.clockBfu = .due ⟨86400, 86400, 0, .byAdvance⟩ :: [] ∧ s.bfu.counter ≠ 4294967295
    ∧ (clocked .bfu [.due ⟨86400, 86400, 0, .byAdvance⟩] reset0).cck.valid = false ∧ s.cck.valid = true
    ∧ latestBillingDate s.bfu.billingDay 86400 = some ⟨2000, 1, 2⟩
    ∧ (⟨2000, 1, 2⟩ : Date).laterThan s.bfu.lastDate = true ∧ armed (some ⟨2000, 1, 2⟩) = some (32 * 86400)
    ∧ s.cck.time < 32 * 86400 ∧ s.bfu.captured = none
    ∧ (billingDue (some set1) none).bfu.captured = some set1
    ∧ (⟨2000, 1, 2⟩ : Date).laterThan (billingDue none (some ⟨2000, 1, 2⟩)).bfu.lastDate = false := by
  refine ⟨rfl, rfl, ?_, rfl, rfl, ?_, ?_, ?_, ?_, rfl, rfl, ?_⟩ <;> decide +kernel

theorem test_hyps_BillingDayRearms :
    let s := clocked .bfu [.notice (notice .set)] (atTime 900 reset0)
    let o := first
    s.ssv.supply = .mains ∧ s.mail.clockBfu = .notice (notice .set) :: [] ∧ s.bfu.dueTime 900 true = none
    ∧ Delivers (told (.config (.billingDay 28) o) .completed [] none s) .bfu ⟨.config (.billingDay 28) o, .completed, [], none⟩ []
    ∧ { s.bfu with billingDay := 28 }.dueTime 900 true = some (27 * 86400) ∧ s.cck.time < 27 * 86400
    ∧ Delivers (told (.config (.billingDay 28) o) .refused [] none s) .bfu ⟨.config (.billingDay 28) o, .refused, [], none⟩ [] := by
  refine ⟨rfl, rfl, rfl, rfl, ?_, ?_, rfl⟩ <;> decide +kernel

/-- A forward jump past the armed billing instant: BFU arms it again and CCK delivers it at once (R111, R116). -/
theorem test_billing_instant_passed :
    let s := clocked .bfu [.notice ⟨.set, 0, 10 * 86400, 0, 1, true, true⟩]
      (((atTime (10 * 86400) reset0).setBfu { reset0.bfu with billingDay := 5, lastDate := some ⟨2000, 1, 1⟩ }))
    (runAll [.bfuChangeNotice] s).mail.clockBfu = [.due ⟨4 * 86400, 10 * 86400, 0, .byChange⟩]
    ∧ (runAll [.bfuChangeNotice] s).cck.due.bfu = none := by decide +kernel

/-- A forward change past the billing instant and one back before it, both before BFU takes the first notice: the first
change's due event comes between the two notices, and its freeze is taken (R52, R111). -/
theorem test_two_changes_at_billing :
    let back : Notice := ⟨.set, 10 * 86400, 2 * 86400, 1, 2, true, true⟩
    let s := clocked .bfu [.notice ⟨.set, 0, 10 * 86400, 0, 1, true, true⟩, .notice back]
      ((atTime (2 * 86400) reset0).setBfu { reset0.bfu with billingDay := 5, lastDate := some ⟨2000, 1, 1⟩ })
    let u := runAll [.bfuChangeNotice, .bfuDueEvent, .bfuChangeNotice] s
    (runAll [.bfuChangeNotice] s).mail.clockBfu = [.due ⟨4 * 86400, 10 * 86400, 1, .byChange⟩, .notice back]
    ∧ u.mail.clockBfu = [] ∧ u.bfu.lastDate = some ⟨2000, 1, 5⟩ ∧ u.bfu.captured.isSome = true
    ∧ u.cck.due.bfu = some (35 * 86400) := by decide +kernel

theorem test_hyps_DatesAndBillingInstants :
    let d : Date := ⟨2024, 12, 28⟩
    1 ≤ 28 ∧ 28 ≤ 28 ∧ 1 ≤ d.month ∧ d.month ≤ 12 ∧ 1 ≤ d.day ∧ d.day ≤ 31
    ∧ d.before ⟨2025, 1, 28⟩ = true ∧ 4294967295 ≤ 4294967295 := by decide

theorem test_hyps_DatesAndBillingInstants_due :
    { Bfu.blank with billingDay := 28, lastDate := some ⟨2000, 1, 28⟩ }.dueTime 0 true = some (58 * 86400)
    ∧ { Bfu.blank with billingDay := 28 }.dueTime 0 true = some (27 * 86400) ∧ Bfu.blank.billingDay = 0
    ∧ latestBillingDate 28 (27 * 86400) = some ⟨2000, 1, 28⟩ ∧ latestBillingDate 28 (27 * 86400 - 1) = none := by
  decide +kernel

/-- A write of the billing day already held leaves the last date (R117). -/
theorem test_billing_day_already_held :
    ({ Bfu.blank with billingDay := 1 }.takeDay 1 86400 true).lastDate = none
    ∧ (Bfu.blank.takeDay 1 86400 true).lastDate = some ⟨2000, 1, 1⟩ := by decide +kernel

/-- With a captured set handed to DSC and the write position given. -/
def captured (pos : Nat) (step : Bool) : State :=
  (reset0.setBfu { reset0.bfu with captured := some set1, handed := true, writePos := pos, counter := 1 }).setSsv
    { reset0.ssv with writeStep := step }

theorem test_hyps_FrozenSetWriteOutcomes :
    Delivers (told .frozenWrite .completed [] none (captured 31 false)) .bfu ⟨.frozenWrite, .completed, [], none⟩ []
    ∧ (captured 31 false).bfu.captured = some set1 ∧ (captured 31 false).ssv.writeStep = false
    ∧ Delivers (told .frozenWrite .completed [] none (captured 15 true)) .bfu ⟨.frozenWrite, .completed, [], none⟩ []
    ∧ (captured 15 true).ssv.writeStep = true
    ∧ Delivers (told .frozenWrite .refused [] none (captured 15 true)) .bfu ⟨.frozenWrite, .refused, [], none⟩ [] :=
  ⟨rfl, rfl, rfl, rfl, rfl, rfl⟩

theorem test_hyps_EraseAheadAtHistory :
    Delivers (told (.frozenErase 6) .granted [] none reset0) .bfu ⟨.frozenErase 6, .granted, [], none⟩ []
    ∧ Delivers (told (.frozenErase 5) .completed [] none reset0) .bfu ⟨.frozenErase 5, .completed, [], none⟩ []
    ∧ Delivers (told (.frozenErase 5) .refused [] none reset0) .bfu ⟨.frozenErase 5, .refused, [], none⟩ [] :=
  ⟨rfl, rfl, rfl⟩

theorem test_hyps_ReadFrozenServesHistory :
    let s (failed : Bool) := reset0.setBfu { reset0.bfu with history := List.replicate 13 ⟨1, 0, failed⟩ }
    Admitted (s false) .ulk 0x51 [13] ∧ 12 < (13#8).toNat ∧ Admitted (s false) .opt 0x51 [12] ∧ (12#8).toNat ≤ 12
    ∧ (s false).bfu.history[(12#8).toNat]? = some ⟨1, 0, false⟩ ∧ Admitted (s true) .opt 0x51 [12]
    ∧ (s true).bfu.history[(12#8).toNat]? = some ⟨1, 0, true⟩ ∧ Admitted reset0 .ulk 0x51 [0]
    ∧ reset0.bfu.history[(0#8).toNat]? = none :=
  ⟨admitted_of _ _ _ _ rfl, by decide, admitted_of _ _ _ _ rfl, by decide, rfl, admitted_of _ _ _ _ rfl, rfl,
    admitted_of _ _ _ _ rfl, rfl⟩

theorem test_hyps_ReadFrozenServesHistory_completion :
    let s := reset0.setBfu { reset0.bfu with history := [⟨1, 0, false⟩] }
    Delivers (told (.frozenRead 1 first) .completed [] (some set1) s) .bfu ⟨.frozenRead 1 first, .completed, [], some set1⟩ []
    ∧ Delivers (told (.frozenRead 1 first) .completed [] none s) .bfu ⟨.frozenRead 1 first, .completed, [], none⟩ []
    ∧ (∃ e ∈ s.bfu.history, e.number = 1) ∧ ¬ ∃ e ∈ reset0.bfu.history, e.number = 1 :=
  ⟨rfl, rfl, ⟨_, List.mem_cons_self, rfl⟩, fun ⟨_, h, _⟩ => by cases h⟩

theorem test_hyps_ReadFrozenServesHistory_page :
    let st : Store := { reset0.store with frozen := [(31, .whole set1)] }
    st.frozen.lookup 31 = some (.whole set1) ∧ st.frozen.lookup 30 = none ∧ set1.bytes.length = 198
    ∧ set1.page.length = 256 := by decide +kernel

/-! ## ECU -/

/-- With a list, an interlock and MFP's state as ECU sees it. -/
def exporting (l : List Directive) (i : Interlock) (v : MfpState) : State :=
  reset0.setEcu { reset0.ecu with list := l, interlock := i, view := v, nextSeq := 9 }

theorem test_hyps_EffectiveLimitRecomputed :
    governingOf eight false = some (directive 1 0 8) ∧ governingOf eight true = some (directive 1 0 8)
    ∧ (let s := exporting eight .closed .lost
      s.ecu.view = .lost ∧ s.ecu.interlock = .closed ∧ min s.ecu.config.staticLimit 1000 < s.ecu.config.staticLimit)
    ∧ ¬ (exporting [] .closed .locked).ecu.view = .lost := by decide +kernel

theorem test_hyps_EffectiveLimitRecomputed_due :
    let e : Ecu :=
      { reset0.ecu with
        list := [{ directive 1 0 1 with start := 50, active := false }, { directive 2 1 2 with stop := some 40 }]
        handshake := .notified, deadline := some 60, interlock := .openWait, openEnd := some 30 }
    governingOf [{ directive 1 0 1 with active := false }] true = none ∧ governingOf [] false = none
    ∧ e.dueTime true = some 30 ∧ { e with interlock := .openReady }.dueTime true = some 40
    ∧ { e with interlock := .openReady }.dueTime false = some 60 ∧ reset0.ecu.dueTime true = none := by decide +kernel

/-- POST_DIRECTIVE's payload: an id, a limit of 1,000 W, start 0, no end, a priority. -/
def post (id priority : Byte) : List Byte := [0, id, 0, 0, 0x03, 0xE8, 0, 0, 0, 0, 0, 0, 0, 0, 0, priority]

/-- After the last post sequence the entries are renumbered from the oldest, the governing one with them (R125). -/
theorem test_renumbered :
    let e : Ecu :=
      { Ecu.blank with list := [directive 1 0 90, directive 2 1 70], governing := some (2, 70), nextSeq := 4294967296 }
    4294967295 < e.nextSeq ∧ e.renumber.list = [directive 1 0 2, directive 2 1 1] ∧ e.renumber.governing = some (2, 1)
    ∧ e.renumber.nextSeq = 3 ∧ Ecu.blank.nextSeq ≤ 4294967295 := by decide +kernel

theorem test_hyps_DirectivesPostedAndCancelled :
    let s := exporting eight .openReady .idle
    Admitted s .ulk 0x60 (post 9 7) ∧ readPost (post 9 7) = some ⟨9, 1000, 0, 0, 0, 7⟩
    ∧ readPost (post 8 3) = some ⟨8, 1000, 0, 0, 0, 3⟩ ∧ readPost (post 9 8) = some ⟨9, 1000, 0, 0, 0, 8⟩
    ∧ ListOrdered s.ecu.list ∧ s.ecu.list.length = 8 ∧ (∀ x ∈ s.ecu.list, x.seq < s.ecu.nextSeq)
    ∧ (∃ x ∈ s.ecu.list, x.id = 8) ∧ (¬ ∃ x ∈ s.ecu.list, x.id = 9) ∧ IsLowest s.ecu.list (directive 8 4 1)
    ∧ (3 < (directive 8 4 1).priority ∧ (directive 8 4 1).priority ≤ 4) ∧ (exporting [] .openReady .idle).ecu.list.length < 8
    ∧ Admitted s .ulk 0x61 [0, 8] ∧ Admitted s .ulk 0x61 [0, 9] := by
  refine ⟨admitted_of _ _ _ _ rfl, ?_, ?_, ?_, ?_, rfl, ?_, ?_, ?_, ?_, ?_, ?_, admitted_of _ _ _ _ rfl,
    admitted_of _ _ _ _ rfl⟩
  · decide +kernel
  · decide +kernel
  · decide +kernel
  · unfold ListOrdered; decide +kernel
  · decide +kernel
  · decide +kernel
  · decide +kernel
  · unfold IsLowest; decide +kernel
  · decide +kernel
  · decide +kernel

theorem test_hyps_ExportClockEventsTaken :
    let s := clocked .ecu [.due ⟨900, 900, 0, .byAdvance⟩] (atTime 900 reset0)
    let t := clocked .ecu [.notice (notice .set)] (atTime 900 reset0)
    s.ssv.supply = .mains ∧ s.mail.clockEcu = .due ⟨900, 900, 0, .byAdvance⟩ :: []
    ∧ t.ssv.supply = .mains ∧ t.mail.clockEcu = .notice (notice .set) :: [] := ⟨rfl, rfl, rfl, rfl⟩

/-- CLOSED with one epoch of `mWh` net in transit, under an effective limit of 5,000 W and a tolerance of 100 W. -/
def epochAt (mWh : Int) (h : Handshake) (excursion : Nat) : State :=
  (reset0.setEcu { reset0.ecu with interlock := .closed, handshake := h, excursion := excursion }).setMail
    { reset0.mail with ecuMfp := [.epoch ⟨some mWh, none, none, none, 0, false⟩] }

theorem test_hyps_ComplianceJudged :
    let inc (mWh : Int) : Increment := ⟨some mWh, none, none, none, 0, false⟩
    let exceeds (mWh : Int) : Prop := netOf (inc mWh) < 0 ∧ (5000 + 100) * 10 < (netOf (inc mWh)).natAbs * 36
    (epochAt (-1417) .settled 0).ssv.supply = .mains ∧ (epochAt (-1417) .settled 0).mail.ecuMfp = .epoch (inc (-1417)) :: []
    ∧ (epochAt (-1417) .settled 0).ecu.interlock = .closed ∧ exceeds (-1417) ∧ ¬ exceeds (-1416) ∧ ¬ exceeds 1417
    ∧ (epochAt (-1417) .overdue 0).ecu.handshake = .overdue
    ∧ (epochAt (-1417) .settled 29).ecu.config.grace ≤ (epochAt (-1417) .settled 29).ecu.excursion + 1
    ∧ (epochAt (-1417) .settled 28).ecu.excursion + 1 < (epochAt (-1417) .settled 28).ecu.config.grace
    ∧ ¬ (reset0.ecu.interlock = .closed) := by
  refine ⟨rfl, rfl, rfl, ?_, ?_, ?_, rfl, ?_, ?_, ?_⟩ <;> decide +kernel

theorem test_hyps_ComplianceJudged_reports :
    let s := (exporting eight .closed .locked).setMail { reset0.mail with ecuMfp := [.port .lost] }
    let e := { s.ecu with effective := 1000 }
    s.ssv.supply = .mains ∧ s.mail.ecuMfp = .port .lost :: [] ∧ s.ecu.interlock = .closed
    ∧ e.effective < e.config.staticLimit := ⟨rfl, rfl, rfl, by decide⟩

/-- With a handshake state and an interlock. -/
def handshaking (h : Handshake) (i : Interlock) (hold : Bool) (e : Option Nat) (v : MfpState) : State :=
  reset0.setEcu { reset0.ecu with handshake := h, interlock := i, hold := hold, openEnd := e, view := v }

theorem test_hyps_HandshakeAndInterlockRequests_site :
    let n := handshaking .notified .openReady false none .idle
    Admitted n .slk 0x63 [0, 1] ∧ n.ecu.handshake ≠ .settled ∧ ofBe [0, 1] ≠ n.ecu.notice ∧ Admitted n .slk 0x63 [0, 0]
    ∧ ofBe [0, 0] = n.ecu.notice ∧ Admitted reset0 .slk 0x63 [0, 0] ∧ reset0.ecu.handshake = .settled
    ∧ Admitted (handshaking .settled .closed false none .idle) .slk 0x64 []
    ∧ Admitted (handshaking .settled .openWait false (some 300) .idle) .slk 0x64 []
    ∧ (handshaking .settled .openWait false (some 300) .idle).ecu.openEnd = some 300
    ∧ Admitted (handshaking .settled .held true none .idle) .slk 0x64 [] ∧ Admitted n .slk 0x64 []
    ∧ Admitted (handshaking .settled .openReady false none .lost) .slk 0x64 []
    ∧ Admitted (handshaking .settled .openReady false none .locked) .slk 0x64 []
    ∧ (handshaking .settled .openReady false none .locked).ecu.effective ≠ 0 := by
  refine ⟨admitted_of _ _ _ _ rfl, ?_, ?_, admitted_of _ _ _ _ rfl, ?_, admitted_of _ _ _ _ rfl, rfl,
    admitted_of _ _ _ _ rfl, admitted_of _ _ _ _ rfl, rfl, admitted_of _ _ _ _ rfl, admitted_of _ _ _ _ rfl,
    admitted_of _ _ _ _ rfl, admitted_of _ _ _ _ rfl, ?_⟩ <;> decide +kernel

theorem test_hyps_HandshakeAndInterlockRequests_zero_limit :
    let s := (handshaking .settled .openReady false none .locked).setEcu
      { (handshaking .settled .openReady false none .locked).ecu with effective := 0 }
    Admitted s .slk 0x64 [] ∧ s.ecu.interlock = .openReady ∧ s.ecu.handshake = .settled ∧ s.ecu.view = .locked
    ∧ s.ecu.effective = 0 := ⟨admitted_of _ _ _ _ rfl, rfl, rfl, rfl, rfl⟩

theorem test_hyps_HandshakeAndInterlockRequests_hold :
    let at0 (e : Option Nat) := handshaking .settled .held true e .idle
    Admitted reset0 .ulk 0x62 [1] ∧ reset0.ecu.hold = false ∧ Admitted (at0 none) .ulk 0x62 [1] ∧ (at0 none).ecu.hold = true
    ∧ Admitted (at0 (some 0)) .ulk 0x62 [0] ∧ (at0 (some 0)).ecu.openEnd = some 0 ∧ 0 ≤ (at0 (some 0)).cck.time
    ∧ Admitted (at0 (some 1)) .ulk 0x62 [0] ∧ (at0 (some 1)).ecu.openEnd = some 1 ∧ (at0 (some 1)).cck.time < 1
    ∧ Admitted reset0 .ulk 0x62 [0] ∧ 1 < (2#8).toNat ∧ Admitted reset0 .ulk 0x62 [2] :=
  ⟨admitted_of _ _ _ _ rfl, rfl, admitted_of _ _ _ _ rfl, rfl, admitted_of _ _ _ _ rfl, rfl, by decide,
    admitted_of _ _ _ _ rfl, rfl, by decide, admitted_of _ _ _ _ rfl, by decide, admitted_of _ _ _ _ rfl⟩

/-! ## Ports -/

/-- With a request in progress at the Utility Link. -/
def serving : State := reset0.setUlk { reset0.ulk with inProgress := some ⟨0x20, 7, 0, none⟩ }

theorem test_hyps_PortChecksInOrder :
    let permitted (s : State) (p : PortId) (code : Byte) (pl : List Byte) : Bool :=
      mayIssue p code pl ((s.port p).coverView == .opened)
    (Instr.readTime .ulk 0 []).wellFormed = true ∧ frameOf (.readTime .ulk 0 []) = some ⟨.ulk, 0x20, 0, []⟩
    ∧ (supplied .holdup reset0).ssv.supply = .holdup ∧ (supplied .start reset0).ssv.supply = .start
    ∧ (serving.port .ulk).inProgress ≠ none ∧ (reset0.port .ulk).inProgress = none
    ∧ permitted reset0 .slk 0x30 [1, 0] = false ∧ permitted reset0 .slk 0x30 [0, 0] = true
    ∧ permitted reset0 .opt 0x11 [3, 5] = false
    ∧ permitted (reset0.setOpt { reset0.opt with coverView := .opened }) .opt 0x11 [3, 5] = true := by
  refine ⟨rfl, rfl, rfl, rfl, ?_, rfl, ?_, ?_, ?_, ?_⟩ <;> decide +kernel

theorem test_hyps_PortChecksInOrder_session_and_protection :
    let level (n : Nat) : State := (enabled reset0).setDsc { reset0.dsc with level := n }
    (withSession reset0).tcu.slot = .loading calendar ∧ ¬ (0x32 ≤ (0x20#8).toNat ∧ (0x20#8).toNat ≤ 0x36)
    ∧ (¬ ∃ k, reset0.tcu.slot = .loading k) ∧ (0x32 ≤ (0x36#8).toNat ∧ (0x36#8).toNat ≤ 0x36)
    ∧ (0x11#8) ∈ ([0x11, 0x71, 0x31, 0x21, 0x70, 0x72, 0x75] : List Byte) ∧ reset0.ulk.writeEnable = false
    ∧ (level 1).ulk.writeEnable = true ∧ (level 1).dsc.level = 1 ∧ ([2#8, 0].head? = some 2) ∧ 3 ≤ (level 3).dsc.level
    ∧ ¬ LengthAllowed 0x21 [0, 0, 0] := by
  refine ⟨rfl, ?_, ?_, ?_, ?_, rfl, rfl, rfl, ?_, ?_, ?_⟩
  · decide
  · rintro ⟨k, h⟩; cases h
  · decide
  · decide
  · decide
  · decide
  · exact fun h : ([0, 0, 0] : List Byte).length = 4 => absurd h (by decide)

theorem test_hyps_PortChecksInOrder_other_frames :
    knownCode 0x00 = false ∧ knownCode 0x76 = false ∧ linkFrames [] = []
    ∧ (reset0.port .ulk).inProgress = none ∧ reset0.ssv.supply = .mains ∧ (reset0.port .ulk).collecting = []
    ∧ (supplied .start reset0).ssv.supply = .start ∧ ((supplied .start reset0).port .opt).collecting = []
    ∧ exec (.linkFrameDiscarded .ulk [0]) reset0 = .next reset0 :=
  ⟨rfl, rfl, rfl, rfl, rfl, rfl, rfl, rfl, rfl⟩

/-- A good link frame: READ_STATUS with tag 7. -/
def linkFrame : List Byte := 0x7E#8 :: ([0, 0, 1, 7] ++ crcBytes [0, 0, 1, 7])

theorem test_hyps_PortChecksInOrder_collection :
    (∀ b ∈ [0x00#8, 0xA5#8], b ≠ 0x7E#8) ∧ 1024 < ofBe [4#8, 1#8] ∧ ofBe [4#8, 0#8] ≤ 1024
    ∧ ([1#8, 7#8, 0#8, 0#8] : List Byte).length = ofBe [0#8, 0#8] + 4
    ∧ ([1#8, 7#8, 0#8] : List Byte).length < ofBe [0#8, 0#8] + 4
    ∧ (crcBytes [0, 0, 1, 7] == [0#8, 0#8]) = false := by decide +kernel

/-- Bytes before a marker are ignored, a length above 1,024 ends the collection, and a bad check drops its frame; the good
frame behind them is collected. -/
theorem test_link_frames_collected :
    linkFrames ([0x00#8, 0xA5#8] ++ linkFrame) = [⟨1, 7, []⟩]
    ∧ linkFrames ([0x7E#8, 0xFF#8, 0xFF#8] ++ linkFrame) = [⟨1, 7, []⟩]
    ∧ linkFrames ([0x7E#8, 0#8, 0#8, 1#8, 7#8, 0#8, 0#8] ++ linkFrame) = [⟨1, 7, []⟩]
    ∧ linkFrames (linkFrame ++ linkFrame.take 6) = [⟨1, 7, []⟩] := by decide +kernel

theorem test_hyps_PortChecksInOrder_rights :
    (0x63#8 ∈ ([0x63, 0x64] : List Byte)) ∧ ¬ (0x60#8 ∈ ([0x63, 0x64] : List Byte))
    ∧ mayIssue .slk 0x60 [] false = false ∧ mayIssue .slk 0x30 [2, 0] false = true ∧ mayIssue .slk 0x30 [] false = true
    ∧ mayIssue .opt 0x40 [] true = false ∧ mayIssue .opt 0x08 [] false = false ∧ mayIssue .opt 0x71 [] true = true
    ∧ mayIssue .ulk 0x64 [] true = false := by decide +kernel

/-- A frame cut in two is taken with its last byte; a marker inside one is data, so that a request which comes while the port
collects another frame is not taken (R207). -/
theorem test_link_frames_over_two_arrivals :
    let half := runAll [.linkFrameDiscarded .ulk (linkFrame.take 4)] reset0
    let whole := runAll [.linkFrameDiscarded .ulk (linkFrame.drop 4)] half
    let other := runAll [.linkFrameDiscarded .ulk [0x7E#8, 0#8], .readStatus .ulk 7 []] reset0
    half.ulk.collecting = linkFrame.take 4 ∧ half.ulk.inProgress = none
    ∧ whole.ulk.collecting = [] ∧ (whole.ulk.inProgress.map fun r => (r.code, r.tag)) = some (1, 7)
    ∧ other.ulk.collecting = [0x7E#8, 0#8] ++ linkFrame ∧ other.ulk.inProgress = none ∧ other.ulk.sent = none := by
  decide +kernel

/-- With a snapshot latch whose last part is unread. -/
def latched : State :=
  reset0.setUlk { reset0.ulk with latch := some { Latch.blank with unread := ⟨false, false, false, true⟩ } }

theorem test_hyps_PortServesOwnRequests :
    Admitted reset0 .ulk 0x02 [] ∧ Admitted reset0 .ulk 0x03 [0x05, 0xEA] ∧ ofBe [0x05, 0xEA] < 2048
    ∧ Admitted reset0 .slk 0x03 [0x00, 0x02] ∧ (Members.ofBits (ofBe [0x00, 0x02])).has .directiveChange = true
    ∧ belongsTo .directiveChange .slk = false ∧ Admitted reset0 .ulk 0x08 [] ∧ Admitted reset0 .ulk 0x04 []
    ∧ reset0.ulk.latch = none ∧ Admitted latched .ulk 0x04 [] ∧ latched.ulk.latch ≠ none ∧ Admitted reset0 .ulk 0x05 []
    ∧ Admitted latched .ulk 0x05 [0] ∧ Admitted latched .ulk 0x05 [5] ∧ Admitted latched .ulk 0x05 [1]
    ∧ Admitted latched .ulk 0x05 [] ∧ (⟨false, false, false, true⟩ : Unread).first = 4 ∧ Admitted latched .ulk 0x06 [] := by
  refine ⟨admitted_of _ _ _ _ rfl, admitted_of _ _ _ _ rfl, ?_, admitted_of _ _ _ _ rfl, ?_, ?_, admitted_of _ _ _ _ rfl,
    admitted_of _ _ _ _ rfl, rfl, admitted_of _ _ _ _ rfl, ?_, admitted_of _ _ _ _ rfl, admitted_of _ _ _ _ rfl,
    admitted_of _ _ _ _ rfl, admitted_of _ _ _ _ rfl, admitted_of _ _ _ _ rfl, rfl, admitted_of _ _ _ _ rfl⟩ <;>
  decide +kernel

theorem test_hyps_PortServesOwnRequests_reports :
    let s := reset0.setMail { reset0.mail with ulk := [⟨.tamper, true⟩, ⟨.tamper, false⟩], optCover := [.closed] }
    s.ssv.supply = .mains
    ∧ takeFirst (fun r => r.member == .tamper) (s.mail.reports .ulk) = some (⟨.tamper, true⟩, [⟨.tamper, false⟩])
    ∧ s.mail.optCover = .closed :: [] := ⟨rfl, rfl, rfl⟩

/-- Every block of a list answers the Utility Link, in the order of the list. -/
def answerAll (l : List Block) (s : State) : State := l.foldl (fun t b => t.answerAsk .ulk b) s

/-- With LATCH_REGISTERS taken at the Utility Link. -/
def latching : State := runAll [.latchRegisters .ulk 9 []] reset0

/-- The owners' contributions show what each held at its own event: a freeze between two of them shows on one side (R199). -/
theorem test_latch_contributions_apart :
    let s := answerAll [.ecu, .nau, .bfu] latching
    let t := answerAll [.tcu, .cck] (s.setBfu { s.bfu with counter := 5 })
    s.ulk.latch = none ∧ s.ulk.inProgress.isSome = true ∧ t.ulk.inProgress = none
    ∧ (t.ulk.latch.map fun l => l.freezeCounter) = some 0 ∧ t.bfu.counter = 5
    ∧ t.ulk.sent = some ⟨4, 9, .ok, [0#8]⟩ := by decide +kernel

/-- READ_CONFIG across a completion shows it at one owner and not at another, and IPU's thresholds after ECU's items (R198). -/
theorem test_config_gathered :
    let s := answerAll [.dsc, .ecu, .bfu] (runAll [.readConfig .ulk 3 []] reset0)
    let t := answerAll [.ipu, .mfp, .nau] ((s.setBfu { s.bfu with billingDay := 9 }).setIpu { s.ipu with length := 30 })
    (t.ulk.sent.map fun x => x.payload) =
      some
        (be 7 0 ++ be 8 0 ++ be 1 0 ++ be 2 0 ++ be 1 30 ++ be 2 0 ++ be 1 0 ++ be 4 5000 ++ be 2 100 ++ be 1 30 ++ be 2 60
          ++ be 2 300 ++ be 2 96 ++ be 2 96 ++ be 1 0 ++ be 1 0 ++ be 4 0) := by decide +kernel

theorem test_hyps_PortServesOwnRequests_asks :
    let one := answerAll [.nau, .cck, .tcu, .bfu] latching
    latching.ulk.inProgress =
        some ⟨4, 9, 1, some ⟨[.nau, .cck, .tcu, .bfu, .ecu], .latch .blank⟩⟩
    ∧ ([.nau, .cck, .tcu, .bfu, .ecu] : List Block).erase .ecu ≠ [] ∧ Block.dsc ∉ ([.nau, .cck, .tcu, .bfu, .ecu] : List Block)
    ∧ one.ulk.asked = [.ecu] ∧ ([.ecu] : List Block).erase .ecu = []
    ∧ (∃ k, (k == 1 && true) = true) ∧ Unread.first ⟨false, true, true, false⟩ = 2 := by
  refine ⟨?_, ?_, ?_, ?_, ?_, ⟨1, rfl⟩, rfl⟩ <;> decide +kernel

theorem test_hyps_ReadsAnswerWithoutChange_asks :
    let s := runAll [.readLive .slk 2 []] reset0
    let f : Block → List Byte := fun b => if b = .ipu then [1, 2, 3, 4] else [5]
    s.slk.inProgress = some ⟨7, 2, 1, some ⟨[.mfp, .ecu], .read .live []⟩⟩
    ∧ ([.mfp, .ecu] : List Block).erase .ecu ≠ [] ∧ Block.nau ∉ ([.mfp, .ecu] : List Block)
    ∧ (s.answerAsk .slk .ecu).slk.asked = [.mfp] ∧ ([.mfp] : List Block).erase .mfp = []
    ∧ List.Perm [(.ecu, f .ecu), (.mfp, f .mfp)] (([.mfp, .ecu] : List Block).map fun b => (b, f b))
    ∧ f .ipu = [1, 2, 3] ++ [4] := by
  refine ⟨?_, ?_, ?_, ?_, ?_, List.Perm.swap _ _ _, rfl⟩ <;> decide +kernel

/-- On an empty queue the one ask outstanding is answered, and no time passes (log 8). -/
theorem test_idle_answers_ask :
    let s := (runAll [.readLive .slk 2 []] reset0).answerAsk .slk .ecu
    s.pending = [] ∧ (s.port .slk).asked ≠ []
    ∧ step s = .next ((s.setFreeIndex (s.freeIndex + 1)).answerAsk .slk .mfp) := by
  refine ⟨rfl, by decide +kernel, ?_⟩
  have h : ((runAll [.readLive .slk 2 []] reset0).answerAsk .slk .ecu).asks = [(.slk, .mfp)] := by decide +kernel
  have hp : ((runAll [.readLive .slk 2 []] reset0).answerAsk .slk .ecu).pending = [] := rfl
  simp only [step, hp, State.idle, State.answerOne, h, List.length_cons, List.length_nil, Nat.zero_add, Nat.mod_one,
    List.getD_cons_zero]

theorem test_hyps_ReadsAnswerWithoutChange :
    Admitted reset0 .opt 0x01 [] ∧ Admitted reset0 .slk 0x07 [] ∧ Admitted reset0 .opt 0x10 [] ∧ Admitted reset0 .slk 0x65 []
    ∧ Admitted reset0 .slk 0x66 [] ∧ Admitted reset0 .opt 0x73 [] :=
  ⟨admitted_of _ _ _ _ rfl, admitted_of _ _ _ _ rfl, admitted_of _ _ _ _ rfl, admitted_of _ _ _ _ rfl,
    admitted_of _ _ _ _ rfl, admitted_of _ _ _ _ rfl⟩

/-! ## Configuration -/

theorem test_hyps_ConfigWritesAsked :
    let s := enabled reset0
    let map : SlotMap := ⟨.phaseA, .phaseB, .phaseC, .gen, .unused, .unused, .unused⟩
    Admitted s .ulk 0x11 (1 :: [1, 2, 3, 4, 0, 0, 0])
    ∧ map.toList.map Role.code = ([1, 2, 3, 4, 0, 0, 0] : List Byte).map BitVec.toNat
    ∧ (∀ b ∈ ([1, 2, 3, 4, 0, 0, 0] : List Byte), b.toNat ≤ 4)
    ∧ (∀ k ∈ [1, 2, 3, 4], (([1, 2, 3, 4, 0, 0, 0] : List Byte).filter fun b => b.toNat == k).length ≤ 1)
    ∧ Admitted s .ulk 0x11 (1 :: [1, 1, 0, 0, 0, 0, 0]) ∧ Admitted s .ulk 0x11 (2 :: [0]) ∧ Admitted s .ulk 0x11 (2 :: [1])
    ∧ Admitted s .ulk 0x11 (2 :: [2]) ∧ 1 < ofBe [2] ∧ Admitted s .ulk 0x11 [12, 0] ∧ knownItem [12, 0] = false := by
  refine ⟨admitted_of _ _ _ _ rfl, ?_, ?_, ?_, admitted_of _ _ _ _ rfl, admitted_of _ _ _ _ rfl, admitted_of _ _ _ _ rfl,
    admitted_of _ _ _ _ rfl, ?_, admitted_of _ _ _ _ rfl, rfl⟩ <;> decide +kernel

theorem test_hyps_ConfigWritesAsked_ranges :
    let s := enabled reset0
    Admitted s .ulk 0x11 (4 :: [28]) ∧ Admitted s .ulk 0x11 (5 :: be 4 100000) ∧ ofBe (be 4 100000) = 100000
    ∧ Admitted s .ulk 0x11 (6 :: be 2 5000) ∧ Admitted s .ulk 0x11 (7 :: [0]) ∧ Admitted s .ulk 0x11 (8 :: be 2 600)
    ∧ Admitted s .ulk 0x11 (9 :: be 2 30) ∧ Admitted s .ulk 0x11 (10 :: be 2 4096) ∧ Admitted s .ulk 0x11 (11 :: be 2 4097)
    ∧ ofBe (be 2 4097) = 4097 :=
  ⟨admitted_of _ _ _ _ rfl, admitted_of _ _ _ _ rfl, by decide +kernel, admitted_of _ _ _ _ rfl, admitted_of _ _ _ _ rfl,
    admitted_of _ _ _ _ rfl, admitted_of _ _ _ _ rfl, admitted_of _ _ _ _ rfl, admitted_of _ _ _ _ rfl, by decide +kernel⟩

theorem test_hyps_ConfigWriteOutcomes :
    let good (w : ConfigWrite) : Prop :=
      Delivers (told (.config w first) .completed [] none reset0) w.owner ⟨.config w first, .completed, [], none⟩ []
      ∧ Delivers (told (.config w first) .refused [] none reset0) w.owner ⟨.config w first, .refused, [], none⟩ []
    good (.netting .perPhase) ∧ good (.slotMap .allUnused) ∧ good (.utilityThreshold 1) ∧ good (.siteThreshold 4096)
    ∧ good (.staticLimit 0) ∧ good (.tolerance 5000) ∧ good (.grace 1) ∧ good (.ackTime 5) ∧ good (.minOpen 3600)
    ∧ good (.protection 3 true) :=
  ⟨⟨rfl, rfl⟩, ⟨rfl, rfl⟩, ⟨rfl, rfl⟩, ⟨rfl, rfl⟩, ⟨rfl, rfl⟩, ⟨rfl, rfl⟩, ⟨rfl, rfl⟩, ⟨rfl, rfl⟩, ⟨rfl, rfl⟩, ⟨rfl, rfl⟩⟩

/-! ## CVM and what DSC guards -/

theorem test_hyps_CoverProtectionAndLifecycle_cover :
    let cell := (supplied .backup reset0)
    let opened := reset0.setCoverSwitch .opened
    reset0.ssv.supply = .mains ∧ reset0.coverSwitch = .closed ∧ cell.ssv.supply = .backup ∧ cell.ssv.retention = true
    ∧ (supplied .holdup reset0).ssv.supply = .holdup ∧ (supplied .start reset0).coverSwitch = .closed
    ∧ (supplied .backup opened).ssv.retention = true ∧ (supplied .backup opened).coverSwitch = .opened
    ∧ (cell.setSsv { cell.ssv with retention := false }).ssv.retention = false
    ∧ cell.coverSwitch = .closed ∧ opened.ssv.supply = .mains ∧ opened.coverSwitch = .opened
    ∧ Admitted reset0 .ulk 0x74 [] ∧ reset0.cvm.cover = .closed
    ∧ Admitted (reset0.setCvm { reset0.cvm with cover := .opened }) .ulk 0x74 [] :=
  ⟨rfl, rfl, rfl, rfl, rfl, rfl, rfl, rfl, rfl, rfl, rfl, rfl, admitted_of _ _ _ _ rfl, rfl, admitted_of _ _ _ _ rfl⟩

theorem test_hyps_CoverProtectionAndLifecycle_protection :
    let s := enabled reset0
    let l := s.setDsc { s.dsc with lock := true }
    Admitted s .ulk 0x71 [4, 0] ∧ 3 < (4#8).toNat ∧ Admitted s .ulk 0x71 [0, 2] ∧ 1 < (2#8).toNat
    ∧ Admitted l .ulk 0x71 [3, 1] ∧ l.dsc.lock = true ∧ l.cvm.cover = .closed ∧ Admitted s .ulk 0x71 [3, 1] :=
  ⟨admitted_of _ _ _ _ rfl, by decide, admitted_of _ _ _ _ rfl, by decide, admitted_of _ _ _ _ rfl, rfl, rfl,
    admitted_of _ _ _ _ rfl⟩

theorem test_hyps_CoverProtectionAndLifecycle_lifecycle :
    let s := enabled (atTime 1 reset0)
    let m := s.setMfp { s.mfp with map := ⟨.phaseC, .unused, .unused, .unused, .unused, .unused, .unused⟩ }
    let marks : Region Unit := (List.range 15).map fun n => (n + 1, .torn)
    Admitted (enabled reset0) .ulk 0x72 [] ∧ (enabled reset0).cck.valid = false ∧ Admitted s .ulk 0x72 []
    ∧ (¬ ∃ r ∈ s.mfp.map.toList, r = .phaseA ∨ r = .phaseB ∨ r = .phaseC)
    ∧ Admitted m .ulk 0x72 [] ∧ (∃ r ∈ m.mfp.map.toList, r = .phaseA ∨ r = .phaseB ∨ r = .phaseC)
    ∧ m.store.marks.lookup 1 = none ∧ (∀ k, 1 ≤ k → k < 1 → m.store.marks.lookup k ≠ none)
    ∧ (∀ k ∈ List.range 15, marks.lookup (k + 1) ≠ none) ∧ m.dsc.lifecycle = .commissioning := by
  refine ⟨admitted_of _ _ _ _ rfl, rfl, admitted_of _ _ _ _ rfl, ?_, admitted_of _ _ _ _ rfl, ?_, rfl, ?_, ?_, rfl⟩
  · decide +kernel
  · decide +kernel
  · intro k h1 h2; omega
  · decide +kernel

theorem test_hyps_CoverProtectionAndLifecycle_mark :
    Delivers (told (.lifecycleMark first) .completed [] none reset0) .dsc ⟨.lifecycleMark first, .completed, [], none⟩ []
    ∧ Delivers (told (.lifecycleMark first) .refused [] none reset0) .dsc ⟨.lifecycleMark first, .refused, [], none⟩ [] :=
  ⟨rfl, rfl⟩

/-! ## DSC -/

/-- With one request in the queue. -/
def queued (c : Client) (ops : List ArrayOp) (built : Bool) : State :=
  reset0.setDsc { reset0.dsc with queue := [⟨0, c.priority, c, ops, built, false, [], none⟩] }

theorem grantable_of (c : Client) (ops : List ArrayOp) (built : Bool) :
    ArrayFree (queued c ops built)
    ∧ FirstGrantable (queued c ops built) ⟨0, c.priority, c, ops, built, false, [], none⟩
    ∧ DistinctIds (queued c ops built).dsc.queue := by
  refine ⟨⟨rfl, rfl, Or.inl rfl⟩, ⟨[], [], rfl, ⟨?_, ?_, ?_⟩, ?_⟩, List.pairwise_singleton _ _⟩
  · intro h; cases h
  · intro _ h; cases h
  · intro h; cases h
  · intro q h; cases h

/-- In START the queue's append and erase-ahead wait for service, and the activation mark behind them is granted (R188). -/
theorem test_appends_wait_for_service :
    let s (p : Supply) : State := (reset0.setSsv { reset0.ssv with supply := p }).setDsc { reset0.dsc with queue :=
      [⟨0, 2, .imageErase, [.erase 8], true, false, [], none⟩, ⟨1, 4, .append, [], true, false, [], none⟩,
        ⟨2, 5, .calendarMark, [.program (.activationMark 3)], true, false, [], none⟩] }
    ((s .start).grantArray.dsc.grant.map fun g => g.request) = some 2
    ∧ ((s .mains).grantArray.dsc.grant.map fun g => g.request) = some 0 := by decide +kernel

/-- A request stands behind the others of its priority and before those of a lower one (R155). -/
theorem test_request_inserted :
    let q (id priority : Nat) : StoreRequest := ⟨id, priority, .append, [], true, false, [], none⟩
    [q 0 1, q 1 4, q 2 4, q 3 6].Pairwise (fun a b => a.priority ≤ b.priority)
    ∧ insertRequest (q 4 4) [q 0 1, q 1 4, q 2 4, q 3 6] = [q 0 1, q 1 4, q 2 4, q 4 4, q 3 6] := by decide +kernel

theorem test_hyps_ArrayGrantedAndImagesBuilt_grants :
    FirstGrantable (queued (.profileErase 15) [.erase 15] true)
        ⟨0, 4, .profileErase 15, [.erase 15], true, false, [], none⟩
    ∧ FirstGrantable (queued .routineImage [] false) ⟨0, 2, .routineImage, [], false, false, [], none⟩
    ∧ FirstGrantable (queued (.config (.netting .perPhase) first) [] false)
        ⟨0, 5, .config (.netting .perPhase) first, [], false, false, [], none⟩
    ∧ ((queued (.config (.netting .perPhase) first) [] false).store.config.erasedIn 0 16 = true)
    ∧ (queued .routineImage [] false).dsc.seqSpent = false :=
  ⟨(grantable_of _ _ _).2.1, (grantable_of _ _ _).2.1, (grantable_of _ _ _).2.1, rfl, rfl⟩

/-- In HOLDUP with the hold-up commit queued, the next slot's sector awaiting its erase, and the last sequence given or not. -/
def holding (spent : Bool) : State :=
  supplied .holdup
    ((queued .holdup [] false).setDsc
      { (queued .holdup [] false).dsc with awaitsErase := true, seqSpent := spent, nextSlot := 28 })

theorem test_hyps_ArrayGrantedAndImagesBuilt_holdup (spent : Bool) :
    let r : StoreRequest := ⟨0, 1, .holdup, [], false, false, [], none⟩
    ArrayFree (holding spent) ∧ FirstGrantable (holding spent) r ∧ DistinctIds (holding spent).dsc.queue
    ∧ (holding spent).dsc.seqSpent = spent ∧ (holding spent).dsc.awaitsErase = true := by
  refine ⟨⟨rfl, rfl, Or.inl rfl⟩, ⟨[], [], rfl, ⟨fun _ => rfl, ?_, ?_⟩, ?_⟩, List.pairwise_singleton _ _, rfl, rfl⟩
  · intro h; exact absurd rfl h
  · intro h; cases h
  · intro q h; cases h

theorem test_hyps_ArrayGrantedAndImagesBuilt_spent :
    let s (c : Client) := (queued c [] false).setDsc { (queued c [] false).dsc with seqSpent := true }
    FirstGrantable (s (.commandedImage first)) ⟨0, 2, .commandedImage first, [], false, false, [], none⟩
    ∧ FirstGrantable (s .routineImage) ⟨0, 2, .routineImage, [], false, false, [], none⟩
    ∧ (s .routineImage).dsc.seqSpent = true ∧ ¬ ArrayFree (reset0.setDsc { reset0.dsc with grant := some ⟨0, 0⟩ }) := by
  refine ⟨⟨[], [], rfl, ⟨?_, ?_, ?_⟩, ?_⟩, ⟨[], [], rfl, ⟨?_, ?_, ?_⟩, ?_⟩, rfl, ?_⟩
  · intro h; cases h
  · intro _ h; cases h
  · intro h; cases h
  · intro q h; cases h
  · intro h; cases h
  · intro _ h; cases h
  · intro h; cases h
  · intro q h; cases h
  · intro h; cases h.2.1

/-- An image being gathered, with every part but NAU's given. -/
def gathering : State :=
  (queued .routineImage [] false).setDsc
    { (queued .routineImage [] false).dsc with
      grant := some ⟨0, 0⟩
      gather := some ⟨0, .routine, none, some reset0.mfp.part, some reset0.cck.part, some reset0.tcu.part,
        some reset0.ipu.part, some reset0.bfu.part, some reset0.ecu.part, some false⟩ }

/-- The image that NAU's part completes. -/
def gathered : CommitImage :=
  ⟨1, .routine, reset0.nau, reset0.mfp.part, reset0.cck.part, reset0.tcu.part, reset0.ipu.part, reset0.bfu.part,
    reset0.ecu.part, false⟩

theorem test_hyps_ArrayGrantedAndImagesBuilt_parts :
    let g : Gather := ⟨0, .routine, none, some reset0.mfp.part, some reset0.cck.part, some reset0.tcu.part,
      some reset0.ipu.part, some reset0.bfu.part, some reset0.ecu.part, some false⟩
    gathering.dsc.gather = some g ∧ (g.take gathering .cvm).image 1 = none
    ∧ (g.take gathering .nau).image gathering.dsc.nextSeq = some gathered
    ∧ gathering.dsc.queue.find? (fun q => q.id == g.request)
        = some ⟨0, 2, .routineImage, [], false, false, [], none⟩ := ⟨rfl, rfl, rfl, rfl⟩

theorem test_hyps_ArrayGrantedAndImagesBuilt_slots :
    let st : Store := { reset0.store with images := [(31, .whole gathered)] }
    gathered.ipu.queue.length ≤ 2 ∧ gathered.ecu.list.length ≤ 8 ∧ st.images.lookup 31 = some (.whole gathered)
    ∧ st.images.lookup 30 = none := by decide +kernel

/-- An operation of the one request in flight, the burst's operations so far given. -/
def running (c : Client) (op : ArrayOp) (more : List ArrayOp) (used : Nat) : State :=
  let s := queued c (op :: more) true
  s.setDsc { s.dsc with inFlight := some ⟨0, op⟩, grant := some ⟨0, used⟩ }

theorem test_hyps_OperationsComplete (c : Client) (op : ArrayOp) (more : List ArrayOp) (used : Nat) :
    let s := running c op more used
    s.dsc.inFlight = some ⟨0, op⟩ ∧ s.dsc.request 0 = some ⟨0, c.priority, c, op :: more, true, false, [], none⟩
    ∧ s.dsc.grant = some ⟨0, used⟩ ∧ DistinctIds s.dsc.queue
    ∧ (∀ o, s.ssv.commanded = some o → .commandedImage o true ∉ s.mail.ssv) :=
  ⟨rfl, rfl, rfl, List.pairwise_singleton _ _, fun _ h => nomatch h⟩

/-- A state in which the image of the pending RESTART is complete, its report on the way, and a routine image begun. -/
def reported : State :=
  let s := running .routineImage (.program (.imagePage 1 0)) [] 0
  (s.setSsv { s.ssv with commanded := some first }).setMail { s.mail with ssv := [.commandedImage first true] }

theorem test_hyps_OperationsComplete_reported :
    reported.ssv.commanded = some first ∧ SsvMail.commandedImage first true ∈ reported.mail.ssv := by decide +kernel

/-- What DSC starts after the commanded image's completion does not complete. -/
theorem test_operation_after_commanded_image :
    (runAll [.operationCompletion .good] reported).store.images = []
    ∧ (runAll [.operationCompletion .good] reported).dsc.inFlight = reported.dsc.inFlight := by decide +kernel

/-- A report on the image of an abandoned RESTART does nothing while another RESTART is pending. -/
theorem test_report_of_abandoned_restart :
    let s := reported.setSsv { reported.ssv with commanded := some ⟨.ulk, 9⟩ }
    (runAll [.commandedImageCompletion] s).ssv = s.ssv ∧ (runAll [.commandedImageCompletion] s).mail.ssv = [] := by
  decide +kernel

theorem test_hyps_OperationsComplete_programs :
    let p : Program := .intervalRecord 4223 record
    let put : Store := { reset0.store with profile := [(4223, .whole record)] }
    reset0.store.program p = some put ∧ put.program p = none ∧ 2 + 1 < 4 ∧ 4 ≤ 3 + 1 := ⟨rfl, rfl, by decide, by decide⟩

theorem test_hyps_OperationsComplete_advance :
    let at0 (slot : Nat) (bad wanted : Bool) : State :=
      reset0.setDsc { reset0.dsc with nextSlot := slot, fault := bad, imageWanted := wanted }
    ((at0 30 false false).dsc.nextSlot + 1) % 32 % 4 ≠ 0 ∧ ((at0 31 true false).dsc.nextSlot + 1) % 32 % 4 = 0
    ∧ (at0 31 true false).dsc.fault = true ∧ (at0 31 false false).dsc.fault = false
    ∧ ((at0 0 false true).dsc.imageWanted = true ∧ (at0 0 false true).dsc.fault = false
      ∧ (at0 0 false true).dsc.seqSpent = false ∧ ∀ q ∈ (at0 0 false true).dsc.queue, q.client ≠ .routineImage)
    ∧ (at0 0 true true).dsc.fault = true := by decide +kernel

theorem test_hyps_OperationsComplete_reads :
    let st : Store := { reset0.store with frozen := [(0, .whole set1), (1, .torn)] }
    st.frozen.lookup 0 = some (.whole set1) ∧ (∀ f, st.frozen.lookup 1 ≠ some (.whole f)) ∧ st.frozen.lookup 2 = none
    ∧ st.frozen.lookup 0 ≠ none ∧ ArrayResult.failed ≠ .good := by
  refine ⟨rfl, ?_, rfl, ?_, ?_⟩
  · intro f h; cases h
  · intro h; cases h
  · decide

/-- The request of the failed program ends and the other writes are refused with it; reads stay. -/
theorem test_program_failure_refuses_writes :
    let p : ArrayOp := .program (.intervalRecord 0 record)
    let s := running .append p [] 0
    let t := s.setDsc { s.dsc with queue := s.dsc.queue ++
      [⟨1, 6, .frozenRead 1 first, [.readFrozen 0], true, false, [], none⟩,
        ⟨2, 5, .config (.netting .perPhase) first, [], false, false, [], none⟩] }
    let u := runAll [.operationCompletion .failed] t
    u.dsc.fault = true ∧ (u.dsc.queue.map fun q => q.id) = [1]
    ∧ u.mail.store = [⟨.append, .refused, [], none⟩, ⟨.config (.netting .perPhase) first, .refused, [], none⟩] := by
  decide +kernel

/-! ## SSV -/

theorem test_hyps_SupplyStatesFollowMains :
    let h (good : Bool) : State :=
      (supplied .holdup reset0).setSsv { reset0.ssv with supply := .holdup, mainsGood := good }
    (supplied .backup reset0).ssv.supply = .backup ∧ reset0.ssv.supply ≠ .backup ∧ reset0.ssv.supply = .mains
    ∧ (supplied .start reset0).ssv.supply = .start
    ∧ (running (.append) (.erase 15) [] 0).dsc.inFlight = some ⟨0, .erase 15⟩ ∧ 14 < 15
    ∧ ((h true).setMail { reset0.mail with ssv := [.holdupEnd true 1] }).mail.ssv = .holdupEnd true 1 :: []
    ∧ (h true).ssv.mainsGood = true ∧ (h false).ssv.mainsGood = false ∧ (h true).ssv.supply = .holdup :=
  ⟨rfl, by decide, rfl, rfl, rfl, by decide, rfl, rfl, rfl, rfl⟩

theorem test_hyps_SupplyStatesFollowMains_order :
    let p : ArrayOp := .program (.imagePage 0 1)
    (running .routineImage p [] 0).dsc.inFlight = some ⟨0, p⟩
    ∧ (running (.profileErase 15) (.erase 15) [] 0).dsc.inFlight = some ⟨0, .erase 15⟩ ∧ 14 < 15
    ∧ (running (.frozenErase 6) (.erase 6) [] 0).dsc.inFlight = some ⟨0, .erase 6⟩ ∧ 6 < 7
    ∧ (running .imageErase (.erase 7) [] 0).dsc.inFlight = some ⟨0, .erase 7⟩
    ∧ (running .imageErase (.erase 14) [] 0).dsc.inFlight = some ⟨0, .erase 14⟩
    ∧ (running (.frozenRead 1 first) (.readFrozen 0) [] 0).dsc.inFlight = some ⟨0, .readFrozen 0⟩
    ∧ (queued .routineImage [p] true).dsc.inFlight = none
    ∧ (∀ q ∈ (queued .routineImage [p] true).dsc.queue, 1 < q.priority) := by decide +kernel

/-- An image cut between its bursts leaves the queue, its slot is passed, and the routine image still wanted is placed behind
the hold-up commit, which is granted at once. -/
theorem test_image_cut_between_bursts :
    let s := queued .routineImage [.program (.imagePage 0 1)] true
    let t := (s.setDsc { s.dsc with imageWanted := true }).orderHoldup
    (t.dsc.queue.map fun q => q.client) = [.holdup, .routineImage] ∧ t.dsc.nextSlot = 1 ∧ t.dsc.gather.isSome = true := by
  decide +kernel

/-- In HOLDUP with mains good and the report of a complete hold-up commit in transit; MFP's last state was LOST, TCU's slot
is reached, and a notice waits for BFU. -/
def returning : State :=
  let s := (supplied .holdup (atTime 900 reset0)).setMail
    { reset0.mail with ssv := [.holdupEnd true 1], ecuMfp := [.port .lost], clockBfu := [.notice (notice .set)] }
  (s.setMfp { s.mfp with port := .lost }).setCck
    { s.cck with due := { s.cck.due with tcu := some 900, bfu := some 900, ipu := some 901 } }

theorem test_hyps_SupplyStatesFollowMains_return :
    returning.ssv.supply = .holdup ∧ returning.mail.ssv = .holdupEnd true 1 :: [] ∧ returning.ssv.mainsGood = true
    ∧ returning.noticeWaits .tcu = false ∧ returning.cck.due.get .tcu = some 900 ∧ 900 ≤ returning.cck.time
    ∧ returning.noticeWaits .bfu = true ∧ (∀ d, returning.cck.due.get .ipu = some d → returning.cck.time < d)
    ∧ reset0.mail.ecuMfp = [] := by
  refine ⟨rfl, rfl, rfl, rfl, rfl, by decide, rfl, ?_, rfl⟩
  intro d h
  injection h with h
  subst h
  decide

/-- At the return the view is IDLE before any due event is taken (R148, R182). -/
theorem test_return_settles_view :
    let t := runAll [.holdupCommitEnd] returning
    t.ssv.supply = .mains ∧ t.ecu.view = .idle ∧ t.mail.ecuMfp = []
    ∧ t.mail.clockTcu = [.due ⟨900, 900, 0, .byAdvance⟩] ∧ t.cck.due = ⟨some 901, none, some 900, none⟩ := by
  decide +kernel

theorem test_hyps_SupplyStatesFollowMains_settling :
    let s := reset0.setMail { reset0.mail with ecuMfp := [.epoch ⟨none, none, none, none, 0, false⟩, .port .lost] }
    s.ssv.supply = .mains ∧ s.mail.ecuMfp = .epoch ⟨none, none, none, none, 0, false⟩ :: [.port .lost]
    ∧ (∃ u, exec .ecuEpochIncrement s = .next u) ∧ ∃ u, exec .ecuMfpStateReport
      (reset0.setMail { reset0.mail with ecuMfp := [.port .lost] }) = .next u := ⟨rfl, rfl, ⟨_, rfl⟩, ⟨_, rfl⟩⟩

/-- In START with a phase. -/
def starting (ph : Phase) (resumed : Bool) (o : Owed) : State :=
  reset0.setSsv { reset0.ssv with supply := .start, phase := some ph, resumed := resumed, owed := o }

theorem test_hyps_RestartsRestoreImage :
    let none0 : Owed := ⟨false, false, false, false, false⟩
    let sent (ok : Bool) (o : Option Origin) : State :=
      (reset0.setSsv { reset0.ssv with commanded := o }).setMail { reset0.mail with ssv := [.commandedImage first ok] }
    (starting .gating false none0).ssv.supply = .start ∧ (starting .gating false none0).ssv.phase = some .gating
    ∧ (starting .restoring false none0).ssv.phase = some .restoring ∧ reset0.ssv.supply = .mains
    ∧ Admitted (enabled reset0) .ulk 0x75 [] ∧ reset0.dsc.seqSpent = false ∧ reset0.dsc.fault = false
    ∧ Admitted ((enabled reset0).setDsc { reset0.dsc with fault := true }) .ulk 0x75 []
    ∧ (sent true (some first)).mail.ssv = .commandedImage first true :: []
    ∧ (sent true (some first)).ssv.commanded = some first
    ∧ (sent false (some first)).mail.ssv = .commandedImage first false :: []
    ∧ (sent true none).ssv.commanded ≠ some first ∧ (sent true (some ⟨.ulk, 9⟩)).ssv.commanded ≠ some first :=
  ⟨rfl, rfl, rfl, rfl, admitted_of _ _ _ _ rfl, rfl, rfl, admitted_of _ _ _ _ rfl, rfl, rfl, rfl, by decide, by decide⟩

theorem gathered_valid : validImageSlot gathered.slot = true :=
  gathered.slot_valid (gathered.bytes_length_le (by decide) (by decide))

theorem newestImage_one (st : Store) (n : Nat) (x : CommitImage) (hs : st.images.valid = [(n, x)])
    (hv : validImageSlot x.slot = true) : st.newestImage = some (n, x) := by
  simp [Store.newestImage, Store.validImages, hs, List.filter, hv, newestBy]

theorem test_hyps_RestartsRestoreImage_found :
    { reset0.store with images := [(3, .torn), (31, .whole gathered)] }.newestImage = some (31, gathered) :=
  newestImage_one _ _ _ rfl gathered_valid

theorem test_hyps_RestartsRestoreImage_images :
    reset0.store.newestImage = none ∧ reset0.store.marks.valid = []
    ∧ reset0.store.newestFrozen = none
    ∧ { reset0.store with frozen := [(31, .whole set1)] }.newestFrozen = some (31, set1) := by
  refine ⟨rfl, rfl, rfl, ?_⟩
  rw [Store.newestFrozen, Store.validFrozen_eq]
  rfl

theorem test_hyps_RestartsRestoreImage_kinds :
    let cell (good : Bool) (c : RestartCause) : State :=
      reset0.setSsv { reset0.ssv with cause := c, cellGood := good }
    reset0.store.wf = true
    ∧ ((cell false .mainsReturn).ssv.cause = .mainsReturn ∧ (cell false .mainsReturn).ssv.cellGood = false)
    ∧ ¬ ((cell true .mainsReturn).ssv.cause = .mainsReturn ∧ (cell true .mainsReturn).ssv.cellGood = false)
    ∧ ¬ ((cell false .externalReset).ssv.cause = .mainsReturn ∧ (cell false .externalReset).ssv.cellGood = false)
    ∧ (reset0.setCoverSwitch .opened).coverSwitch = .opened ∧ reset0.coverSwitch = .closed
    ∧ (reset0.setCoverSwitch .opened).cvm.cover = .closed
    ∧ (reset0.setCvm ⟨.opened, true, true⟩).cvm.cover = .opened
    ∧ reset0.cutOperations.store.newestImage = none := by decide +kernel

/-- With the cell LOW an OPEN sample is an opening over CLOSED alone; over OPEN the latch is the image's and the flag clear. -/
theorem test_cover_sampled_with_cell_low :
    Cvm.restarted ⟨.closed, false, false⟩ true false .opened false = ⟨.opened, true, true⟩
    ∧ Cvm.restarted ⟨.opened, true, true⟩ true false .opened false = ⟨.opened, false, false⟩
    ∧ Cvm.restarted ⟨.opened, true, true⟩ true false .closed true = ⟨.closed, true, false⟩
    ∧ Cvm.restarted ⟨.opened, true, true⟩ true true .closed false = ⟨.opened, true, true⟩ := by decide

/-- Image slots as DscScanned scans them: the slot after the newest image's, past a torn one, and past a full sector. -/
theorem test_hyps_DscScanned_slots :
    let images (l : Region CommitImage) : Store := { reset0.store with images := l }
    let full := images [(28, .torn), (29, .torn), (30, .torn), (31, .whole gathered)]
    (images [(0, .whole gathered), (1, .torn)]).images.lookup 2 = none
    ∧ (∀ j, 0 < j → j < 2 → (images [(0, .whole gathered), (1, .torn)]).images.lookup j ≠ none)
    ∧ (∀ k, 31 < k → k / 4 = 31 / 4 → full.images.lookup k ≠ none)
    ∧ gathered.seq ≠ 4294967295 ∧ { gathered with seq := 4294967295 }.seq = 4294967295 := by
  refine ⟨rfl, ?_, ?_, by decide, rfl⟩
  · intro j h1 h2
    have : j = 1 := by omega
    subst this
    decide
  · intro k h1 h2; omega

theorem test_hyps_DscScanned_config :
    let c : ConfigRecord := ⟨7, .allUnused, .summed, 15, 0, ⟨5000, 100, 30, 60, 300⟩, 96, 96, 0, false⟩
    let st : Store := { reset0.store with config := [(15, .whole c)] }
    st.newestConfig = some (15, c) ∧ st.config.lookup 15 ≠ none ∧ reset0.store.newestConfig = none
    ∧ (∀ j, 15 < j → j / 16 = 15 / 16 → st.config.lookup j = none) := by
  refine ⟨rfl, ?_, rfl, ?_⟩
  · decide
  · intro j h1 h2; omega

/-- Calendar sectors with a record each, marked or not. -/
def calendars (m3 m4 : Bool) : Store :=
  let mark (b : Bool) : Option (Written Unit) := if b then some (.whole ()) else none
  { reset0.store with
    calendar3 := { reset0.store.calendar3 with record := some (.whole ⟨calendar, 1⟩), mark := mark m3 }
    calendar4 := { reset0.store.calendar4 with record := some (.whole ⟨calendar, 2⟩), mark := mark m4 } }

theorem test_hyps_TariffRestored :
    let resumed (st : Store) (x : Option TcuPart) : Tcu := Tcu.restarted st.calendars x
    CalendarIn (calendars true false) 3 ⟨calendar, 1⟩ true ∧ CalendarIn (calendars true false) 4 ⟨calendar, 2⟩ false
    ∧ (resumed (calendars true false) none).slot = .waiting ⟨calendar, 2⟩
    ∧ (resumed (calendars true false) none).active = some ⟨calendar, 1⟩
    ∧ (resumed (calendars true true) none).active = some ⟨calendar, 2⟩
    ∧ (resumed (calendars false false) none).slot = .waiting ⟨calendar, 2⟩
    ∧ (resumed (calendars false false) (some ⟨some 1, 0, 3⟩)).active = some ⟨calendar, 1⟩
    ∧ (resumed (calendars false false) (some ⟨some 1, 0, 3⟩)).markOwed = true
    ∧ (resumed reset0.store none).active = none := by
  refine ⟨⟨_, Or.inl ⟨rfl, rfl⟩, rfl, ?_⟩, ⟨_, Or.inr ⟨rfl, rfl⟩, rfl, ?_⟩, rfl, rfl, rfl, rfl, rfl, rfl, rfl⟩ <;> decide

/-- The ring of a region whose head is the last slot of a sector, and of an empty one. -/
theorem test_hyps_RingRestored :
    let st : Store := { reset0.store with profile := [(127, .whole record)] }
    (127, record) ∈ st.profile.valid ∧ (∀ e ∈ st.profile.valid, e.1 = 127 ∨ e.2.number < record.number)
    ∧ st.profile.lookup 127 ≠ none ∧ (∀ j, 127 < j → j / 128 = 127 / 128 → st.profile.lookup j = none)
    ∧ reset0.store.profile.valid = [] := by
  refine ⟨by decide +kernel, by decide +kernel, by decide +kernel, ?_, rfl⟩
  intro j h1 h2; omega

theorem test_hyps_BillingRestored :
    let st : Store := { reset0.store with frozen := [(15, .whole set1)] }
    st.frozen.valid = [(15, set1)] ∧ st.frozen.lookup 15 ≠ none ∧ reset0.store.frozen.valid = []
    ∧ { set1 with cause := .scheduled }.cause = .scheduled ∧ set1.cause ≠ .scheduled := by decide +kernel

theorem test_hyps_ReaderRestored : (1 : Nat) < 2 ∧ (2 : Nat) ≤ 2 := by decide

theorem test_hyps_WriteStepBegun :
    (captured 15 true).bfu.captured = some set1 ∧ (captured 15 true).bfu.erase = .idle
    ∧ ((captured 15 true).setBfu { (captured 15 true).bfu with erase := .requested }).bfu.erase = .requested
    ∧ reset0.bfu.captured = none := ⟨rfl, rfl, rfl, rfl⟩

theorem test_hyps_UnitsResumeIntoService :
    let all : Owed := ⟨true, true, true, true, true⟩
    let r := starting .restoring true all
    let saved := r.setIpu { r.ipu with savedAt := some 5 }
    let q := starting .restoring false all
    r.ssv.supply = .start ∧ 0 < r.ipu.length ∧ q.ssv.phase = some .restoring ∧ q.ssv.writeStep = false
    ∧ q.ssv.resumed = false ∧ r.ssv.resumed = true ∧ r.ssv.owed.ipu = true ∧ r.ipu.savedAt = none
    ∧ saved.ipu.interval = some .first ∧ saved.ipu.savedAt = some 5 ∧ OpenInterval.first.gen = r.cck.gen
    ∧ (OpenInterval.first.start ≤ r.cck.time ∧ r.cck.time < OpenInterval.first.slotEnd)
    ∧ ¬ ((atTime 900 saved).cck.time < OpenInterval.first.slotEnd) ∧ 0 < r.ipu.pendingLength.getD r.ipu.length
    ∧ r.bfu.dueTime 0 false = none ∧ r.ssv.kind = .cold
    ∧ (r.setSsv { r.ssv with kind := .resetInput }).ssv.kind = .resetInput
    ∧ (starting .restoring true ⟨false, false, false, false, false⟩).ssv.owed = ⟨false, false, false, false, false⟩ := by
  refine ⟨rfl, ?_, rfl, rfl, rfl, rfl, rfl, rfl, rfl, rfl, rfl, ?_, ?_, ?_, rfl, rfl, rfl, rfl⟩ <;> decide +kernel

/-- A saved interval resumed under an interlock that is not CLOSED carries CURTAILED. -/
theorem test_resumed_interval_curtailed :
    let r := starting .restoring true ⟨true, true, true, true, true⟩
    let saved := r.setIpu { r.ipu with interval := some { OpenInterval.first with flags := .none }, savedAt := some 5 }
    let flags (s : State) : Option Quality := s.ipuResume.ipu.interval.map fun iv => iv.flags
    flags (saved.setEcu { saved.ecu with interlock := .openWait }) = some Quality.none.curtail
    ∧ flags (saved.setEcu { saved.ecu with interlock := .closed }) = some .none := by decide +kernel

/-! ## Invariants: a state with a waiting command that meets each, and its step -/

/-- A part that has never been powered, with the mains coming good. -/
def powering : State := State.powerOn.setPending [.mainsGood]

theorem test_hyps_StepKeepsTablesBalanced : TablesBalanced powering ∧ ∃ t, step powering = .next t := by
  refine ⟨⟨⟨rfl, rfl, by decide, by decide, by decide⟩, ?_, ?_⟩, _, rfl⟩
  · intro x h; cases h
  · intro g n h; cases h

theorem test_hyps_StepKeepsArrayCanonical : powering.store.wf = true ∧ ∃ t, step powering = .next t := ⟨rfl, _, rfl⟩

theorem test_hyps_StepKeepsExportSound : ExportSound powering ∧ ∃ t, step powering = .next t := by
  refine ⟨⟨by decide, by decide, by decide, ⟨by decide, .nil, .nil, .nil, ?_⟩, ?_, ?_⟩, _, rfl⟩
  · intro d h; cases h
  · intro x h; cases h
  · intro g e h; cases h

theorem test_hyps_StepKeepsPortsAndClockSound :
    PortsSound powering ∧ ClockSound powering ∧ ∃ t, step powering = .next t := by
  refine ⟨⟨?_, rfl, ?_, ?_, ?_, ?_⟩, ⟨by decide, by decide, by decide⟩, _, rfl⟩
  · intro p _; cases p <;> exact ⟨rfl, rfl⟩
  · intro h; cases h
  · intro p m h; cases p <;> cases m <;> cases h
  · intro p r h; cases p <;> cases h
  · intro p; cases p <;> rfl

end Sys2Proof.Tests
end

section
/-! PROOFS. MFP (chapter 2): what a report of its port state, a taken frame, arriving bytes and an expiry of the frame
deadline do, and what a frame decodes to (O7, O8, O9). -/

namespace Sys2Proof.Machine

theorem State.onMains_iff (s : State) : s.onMains = true ↔ s.ssv.supply = .mains := beq_iff_eq

/-! ## Reports of the port state (R34) -/

/-- What ECU is told on a change of MFP's port state. -/
def portReport (was now : MfpState) : List EcuMail := if was = now then [] else [.port now]

/-- What each of ULK and SLK is told: MEASUREMENT_LOST raised on entry to LOST and withdrawn on leaving it. -/
def lossReport (was now : MfpState) : List AttentionReport :=
  if was = now then []
  else if now = .lost then [⟨.measurementLost, true⟩]
  else if was = .lost then [⟨.measurementLost, false⟩]
  else []

/-- A report of the port state changes the messages to ECU and to the two ports alone. -/
theorem State.reportPort_eq (s : State) (was now : MfpState) :
    s.reportPort was now =
      { s with mail :=
        { s.mail with
          ecuMfp := s.mail.ecuMfp ++ portReport was now
          ulk := s.mail.ulk ++ lossReport was now
          slk := s.mail.slk ++ lossReport was now } } := by
  unfold State.reportPort portReport lossReport
  split
  · simp
  · split
    · rfl
    · split
      · rfl
      · simp [State.sendEcu, State.setMail]

theorem lossReport_locked (was : MfpState) :
    lossReport was .locked = if was = .lost then [⟨.measurementLost, false⟩] else [] := by
  cases was <;> rfl

/-! ## The frame deadline (R32, R33) -/

/-- With a deadline armed in MAINS, its expiry is a missed epoch at the deadline's moment. -/
theorem exec_frameDeadlineExpiry_armed (s : State) (d : Nat) (hm : s.ssv.supply = .mains)
    (hd : s.mfp.deadline = some d) : exec .frameDeadlineExpiry s = .next (s.missEpoch d) := by
  have h : s.expireDeadline = s.missEpoch d := by
    simp [State.expireDeadline, hd, s.onMains_iff.mpr hm]
  exact congrArg Host.Outcome.next h

/-- Settles O9: by the port state before the expiry and by whether this is the third miss. -/
theorem frameDeadlineExpires : Obligations.FrameDeadlineExpires := by
  intro s d hm hd
  rw [exec_frameDeadlineExpiry_armed s d hm hd]
  simp only [State.missEpoch, State.reportPort_eq, portReport, lossReport, State.setMail, State.setMfp, satAdd,
    Config.nextDeadlineMs]
  by_cases hl : s.mfp.port = .lost
  · simp [hl]
  · by_cases h3 : min 3 (s.mfp.misses + 1) = 3
    · simp [hl, h3]
    · simp [hl, h3]

/-! ## What a frame decodes to (R27, R28, R35) -/

theorem phaseInRange_eq_false (v : Option Int) :
    phaseInRange v = false ↔ ∃ z, v = some z ∧ (z < -50000 ∨ 50000 < z) := by
  cases v with
  | none => simp [phaseInRange]
  | some z =>
    simp only [phaseInRange, Bool.and_eq_false_iff, decide_eq_false_iff_not, Option.some.injEq, exists_eq_left',
      Int.not_le]

theorem genInRange_eq_false (v : Option Nat) : genInRange v = false ↔ ∃ n, v = some n ∧ 50000 < n := by
  cases v <;> simp [genInRange]

/-- A frame is a fault frame by its flag or by a value out of range (R28, R35). -/
theorem decodeFrame_fault_iff (m : SlotMap) (slots : List Byte) :
    (decodeFrame m slots).fault = true ↔
      headerBit slots 3 = true
        ∨ (∃ z, ((decodeFrame m slots).a = some z ∨ (decodeFrame m slots).b = some z
            ∨ (decodeFrame m slots).c = some z) ∧ (z < -50000 ∨ 50000 < z))
        ∨ ∃ n, (decodeFrame m slots).gen = some n ∧ 50000 < n := by
  simp only [decodeFrame, Bool.or_eq_true, Bool.not_eq_true', Bool.and_eq_false_iff, phaseInRange_eq_false,
    genInRange_eq_false, or_and_right, exists_or, or_assoc]

theorem Decoded.increment_good (d : Decoded) (missed : Nat) (h : d.fault = false) :
    d.increment missed = ⟨d.a, d.b, d.c, d.gen, missed, false⟩ := if_neg (by simp [h])

theorem Decoded.increment_fault (d : Decoded) (missed : Nat) (h : d.fault = true) :
    d.increment missed = ⟨d.a.map fun _ => 0, d.b.map fun _ => 0, d.c.map fun _ => 0, none, missed, true⟩ := if_pos h

theorem Decoded.live_good (d : Decoded) (h : d.fault = false) :
    d.live = ⟨d.a, d.b, d.c, d.gen, d.voltA, d.voltB, d.voltC, false⟩ := if_neg (by simp [h])

theorem Decoded.live_fault (d : Decoded) (h : d.fault = true) :
    d.live = ⟨none, none, none, none, d.voltA, d.voltB, d.voltC, true⟩ := if_pos h

/-- Settles O8: the values are the slots the map gives, and the two reports follow the fault marker. -/
theorem frameDecodedUnderMap : Obligations.FrameDecodedUnderMap := by
  intro m slots missed d
  exact ⟨rfl, rfl, rfl, rfl, decodeFrame_fault_iff m slots, d.increment_good missed, d.increment_fault missed,
    d.live_good, d.live_fault⟩

/-! ## A taken frame (R29 to R31, R36) -/

/-- The offset of a frame (R29); with no expected sequence number the frame is a base, at offset 0. -/
def Mfp.offset (m : Mfp) (seq : Nat) : Nat := (seq + 16 - m.expected.getD seq) % 16

/-- When MFP discards a taken frame (R29). -/
def Mfp.Discards (m : Mfp) (seq : Nat) : Prop := m.port = .locked ∧ m.rebase = false ∧ 4 ≤ m.offset seq

/-- The missed count of an accepted frame's increment (R29 to R31). -/
def Mfp.missedCount (m : Mfp) (seq : Nat) : Nat :=
  match m.port with
  | .idle => 0
  | .locked => if m.rebase then 0 else m.offset seq - m.reported
  | .lost => m.gapTotal - m.reported

theorem Mfp.judge_discarded (m : Mfp) (seq : Nat) (h : m.Discards seq) : m.judge seq = none := by
  obtain ⟨hp, hr, ho⟩ := h
  cases he : m.expected with
  | none =>
    rw [Mfp.offset, he, Option.getD_none] at ho
    omega
  | some e =>
    rw [Mfp.offset, he, Option.getD_some] at ho
    simp only [Mfp.judge, hp, hr, he, Bool.false_eq_true, if_false]
    exact if_neg (by omega)

theorem Mfp.judge_accepted (m : Mfp) (seq : Nat) (h : ¬ m.Discards seq) :
    m.judge seq = some (m.missedCount seq) := by
  cases hp : m.port with
  | idle => simp only [Mfp.judge, Mfp.missedCount, hp]
  | lost => simp only [Mfp.judge, Mfp.missedCount, hp]
  | locked =>
    cases hr : m.rebase with
    | true => simp only [Mfp.judge, Mfp.missedCount, hp, hr, if_true]
    | false =>
      have ho : m.offset seq ≤ 3 := by
        have : ¬ 4 ≤ m.offset seq := fun h4 => h ⟨hp, hr, h4⟩
        omega
      simp only [Mfp.judge, Mfp.missedCount, hp, hr, Bool.false_eq_true, if_false]
      cases he : m.expected with
      | none =>
        have hz : m.offset seq = 0 := by
          rw [Mfp.offset, he, Option.getD_none]
          omega
        simp [hz]
      | some e =>
        rw [Mfp.offset, he, Option.getD_some] at ho ⊢
        exact if_pos ho

/-- A discarded frame sets the rebase flag and changes nothing else (R29). -/
theorem State.takeFrame_discarded (s : State) (slots : List Byte) (h : s.mfp.Discards (headerSeq slots)) :
    s.takeFrame slots = s.setMfp { s.mfp with rebase := true } := by
  rw [State.takeFrame, s.mfp.judge_discarded _ h]

/-- The Epoch Increment of an accepted frame, decoded under the map that is current once a due one is switched to
(R36, R38). -/
def Mfp.incrementOf (m : Mfp) (slots : List Byte) : Increment :=
  (decodeFrame m.switched.map slots).increment (m.missedCount (headerSeq slots))

/-- An accepted frame: the state report before the increment, both to ECU, and MFP after the delivery (R34, R36). -/
theorem State.takeFrame_accepted (s : State) (slots : List Byte) (h : ¬ s.mfp.Discards (headerSeq slots)) :
    s.takeFrame slots =
      { s with
        mfp := s.mfp.switched.accepted (headerSeq slots) (decodeFrame s.mfp.switched.map slots)
        mail :=
          { s.mail with
            nauEpochs := s.mail.nauEpochs ++ [s.mfp.incrementOf slots]
            ecuMfp := s.mail.ecuMfp ++ portReport s.mfp.port .locked ++ [.epoch (s.mfp.incrementOf slots)]
            ulk := s.mail.ulk ++ lossReport s.mfp.port .locked
            slk := s.mail.slk ++ lossReport s.mfp.port .locked } } := by
  rw [State.takeFrame, s.mfp.judge_accepted _ h]
  simp only [State.reportPort_eq]
  rfl

/-- The maps after the switch (R38). -/
theorem Mfp.switched_eq (m : Mfp) :
    m.switched =
      { m with
        map := if m.switchDue then m.pendingMap.getD m.map else m.map
        pendingMap := if m.switchDue then none else m.pendingMap
        switchDue := false } := by
  obtain ⟨_, _, _, due⟩ := m
  cases due <;> rfl

/-! ## Bytes under collection (R211, log 24) -/

/-- The state with MFP's bytes under collection replaced. -/
def State.setCollecting (s : State) (x : List Byte) : State := s.setMfp { s.mfp with collecting := x }

/-- Between frames nothing is under collection. -/
theorem State.setCollecting_nil (s : State) (h : s.mfp.collecting = []) : s.setCollecting [] = s := by
  rw [← h]
  rfl

/-- A taken frame does not depend on the bytes under collection, and keeps them. -/
theorem State.takeFrame_setCollecting (s : State) (x slots : List Byte) :
    (s.setCollecting x).takeFrame slots = (s.takeFrame slots).setCollecting x := by
  by_cases h : s.mfp.Discards (headerSeq slots)
  · rw [State.takeFrame_discarded s slots h, State.takeFrame_discarded (s.setCollecting x) slots h]
    rfl
  · rw [State.takeFrame_accepted s slots h, State.takeFrame_accepted (s.setCollecting x) slots h]
    simp only [State.setCollecting, State.setMfp, Mfp.incrementOf, Mfp.switched_eq]
    rfl

/-- A taken frame leaves the supply state as it is. -/
@[simp] theorem State.takeFrame_ssv (s : State) (slots : List Byte) : (s.takeFrame slots).ssv = s.ssv := by
  by_cases h : s.mfp.Discards (headerSeq slots)
  · rw [s.takeFrame_discarded slots h, State.setMfp_ssv]
  · rw [s.takeFrame_accepted slots h]

/-- The frames taken in order. -/
def State.takeFrames (s : State) (frames : List (List Byte)) : State := frames.foldl State.takeFrame s

theorem State.takeFrames_setCollecting (s : State) (x : List Byte) (frames : List (List Byte)) :
    (s.setCollecting x).takeFrames frames = (s.takeFrames frames).setCollecting x := by
  induction frames generalizing s with
  | nil => rfl
  | cons f t ih =>
    rw [State.takeFrames, List.foldl_cons, State.takeFrame_setCollecting]
    exact ih (s.takeFrame f)

theorem State.takeFrames_ssv (s : State) (frames : List (List Byte)) : (s.takeFrames frames).ssv = s.ssv := by
  induction frames generalizing s with
  | nil => rfl
  | cons f t ih => exact (ih (s.takeFrame f)).trans (s.takeFrame_ssv f)

/-- What arriving bytes do: the good frames they complete are taken, and the rest stays under collection. -/
theorem State.receive_eq (s : State) (bytes : List Byte) (buf : List Byte) (frames : List (List Byte))
    (h : collect 0xA5#8 frameExtent s.mfp.collecting bytes = (buf, frames)) :
    s.receive bytes = (s.takeFrames (frames.filterMap parseMeasurement)).setCollecting buf := by
  rw [State.receive, h]
  exact s.takeFrames_setCollecting buf _

/-- Bytes that arrive in two parts are received as in one. -/
theorem State.receive_append (s : State) (a b : List Byte) : s.receive (a ++ b) = (s.receive a).receive b := by
  obtain ⟨c, f, ha⟩ : ∃ c f, collect 0xA5#8 frameExtent s.mfp.collecting a = (c, f) := ⟨_, _, rfl⟩
  obtain ⟨d, g, hb⟩ : ∃ d g, collect 0xA5#8 frameExtent c b = (d, g) := ⟨_, _, rfl⟩
  have hab : collect 0xA5#8 frameExtent s.mfp.collecting (a ++ b) = (d, f ++ g) := by
    rw [collect_append, ha, hb]
  rw [s.receive_eq (a ++ b) d (f ++ g) hab, s.receive_eq a c f ha, State.receive_eq _ b d g hb,
    State.takeFrames_setCollecting, List.filterMap_append, State.takeFrames, List.foldl_append]
  rfl

theorem State.receive_ssv (s : State) (bytes : List Byte) : (s.receive bytes).ssv = s.ssv := by
  rw [s.receive_eq bytes _ _ rfl]
  exact s.takeFrames_ssv _

theorem exec_measurementFrame_mains (s : State) (bytes : List Byte) (h : s.ssv.supply = .mains) :
    exec (.measurementFrame bytes) s = .next (s.receive bytes) :=
  congrArg Host.Outcome.next (if_pos (s.onMains_iff.mpr h))

/-- Outside MAINS an arriving frame is dropped without being checked (R39). -/
theorem exec_measurementFrame_off (s : State) (bytes : List Byte) (h : s.ssv.supply ≠ .mains) :
    exec (.measurementFrame bytes) s = .next s :=
  congrArg Host.Outcome.next (if_neg fun hm => h (s.onMains_iff.mp hm))

/-- The bytes that follow are received by the state the first ones leave. -/
theorem exec_measurementFrame_append (s t : State) (bytes more : List Byte) (hm : s.ssv.supply = .mains)
    (h : exec (.measurementFrame bytes) s = .next t) :
    exec (.measurementFrame (bytes ++ more)) s = exec (.measurementFrame more) t := by
  rw [exec_measurementFrame_mains s bytes hm] at h
  obtain rfl := Host.Outcome.next.inj h
  have ht : (s.receive bytes).ssv.supply = .mains := by rw [State.receive_ssv, hm]
  rw [exec_measurementFrame_mains s _ hm, exec_measurementFrame_mains _ _ ht, State.receive_append]

/-- Bytes that complete no good frame change what is under collection alone (R26). -/
theorem exec_measurementFrame_quiet (s : State) (bytes buf : List Byte) (frames : List (List Byte))
    (hm : s.ssv.supply = .mains) (hc : s.mfp.collecting = [])
    (h : collect 0xA5#8 frameExtent [] bytes = (buf, frames)) (hf : frames.filterMap parseMeasurement = []) :
    exec (.measurementFrame bytes) s = .next (s.setCollecting buf) := by
  rw [exec_measurementFrame_mains s bytes hm, s.receive_eq bytes buf frames (by rw [hc, h]), hf]
  rfl

/-! ## One frame between frames (R26, R211) -/

/-- The marker and a good length begin a frame of 36 bytes. -/
theorem collect_measurement_header (bytes : List Byte) :
    collect 0xA5#8 frameExtent [] (0xA5#8 :: 32#8 :: bytes) = collect 0xA5#8 frameExtent [0xA5#8, 32#8] bytes := rfl

/-- Fewer than 36 bytes of a frame stay under collection. -/
theorem collect_measurement_begun (t more : List Byte) (h : t.length + more.length < 34) :
    collect 0xA5#8 frameExtent (0xA5#8 :: 32#8 :: t) more = (0xA5#8 :: 32#8 :: (t ++ more), []) := by
  induction more generalizing t with
  | nil => rw [collect_nil, List.append_nil]
  | cons b u ih =>
    have hb : collectByte 0xA5#8 frameExtent (0xA5#8 :: 32#8 :: t) b = (0xA5#8 :: 32#8 :: (t ++ [b]), []) :=
      if_pos (by simp at h ⊢; omega)
    rw [List.length_cons] at h
    rw [collect_cons, hb, ih (t ++ [b]) (by simp; omega), List.append_assoc]
    rfl

/-- The 36 bytes of a frame with a good length are handed on whole. -/
theorem collect_measurement_whole (bytes : List Byte) (h : bytes.length = 34) :
    collect 0xA5#8 frameExtent [] (0xA5#8 :: 32#8 :: bytes) = ([], [0xA5#8 :: 32#8 :: bytes]) := by
  rw [collect_measurement_header]
  exact collect_inside _ _ 36 _ _ (by simp) (by rintro rfl; simp at h) (by simp [h]) fun _ _ _ => rfl

/-- A frame whose length and check are good gives its slots. -/
theorem parseMeasurement_measurementBytes (slots : List Byte) (h : slots.length = 32) :
    parseMeasurement (measurementBytes slots) = some slots := by
  simp [parseMeasurement, measurementBytes, h]

/-- Only a frame with a good length and check is not dropped. -/
theorem measurementBytes_of_parse (bytes slots : List Byte) (h : parseMeasurement bytes = some slots) :
    bytes = measurementBytes slots := by
  unfold parseMeasurement at h
  split at h
  case h_1 m l rest =>
    split at h
    case isTrue hg =>
      obtain ⟨hm, hl, _, hcheck⟩ := hg
      obtain rfl := Option.some.inj h
      rw [measurementBytes, ← hl, ← hcheck, List.take_append_drop, hm]
    case isFalse => cases h
  case h_2 => cases h

/-- A good frame that arrives between frames is taken. -/
theorem exec_measurementFrame_good (s : State) (slots : List Byte) (hm : s.ssv.supply = .mains)
    (hc : s.mfp.collecting = []) (hl : slots.length = 32) :
    exec (.measurementFrame (measurementBytes slots)) s = .next (s.takeFrame slots) := by
  have hw : collect 0xA5#8 frameExtent s.mfp.collecting (measurementBytes slots) = ([], [measurementBytes slots]) := by
    rw [hc, measurementBytes, collect_measurement_whole _ (by simp [hl])]
  rw [exec_measurementFrame_mains s _ hm, s.receive_eq _ _ _ hw, ← s.takeFrames_setCollecting,
    s.setCollecting_nil hc]
  simp [parseMeasurement_measurementBytes slots hl, State.takeFrames]

/-- Settles O7: a whole good frame by R29 to R31; other bytes by what they leave under collection. -/
theorem measurementFrameTaken : Obligations.MeasurementFrameTaken := by
  refine ⟨?_, exec_measurementFrame_off, ?_⟩
  · intro s slots hm hc hl m seq offset discards
    rw [exec_measurementFrame_good s slots hm hc hl]
    constructor
    · intro hd
      rw [s.takeFrame_discarded slots hd]
      rfl
    · intro hd
      rw [s.takeFrame_accepted slots hd, lossReport_locked]
      simp only [Mfp.incrementOf, Mfp.switched_eq]
      rfl
  · intro s bytes more hm
    refine ⟨fun t => exec_measurementFrame_append s t bytes more hm, fun hc => ?_⟩
    have quiet := fun b buf frames => exec_measurementFrame_quiet s b buf frames hm hc
    refine ⟨fun hj => ?_, fun l hl => ?_, quiet _ _ [] rfl rfl, fun hlt => ?_, fun hlen hbad => ?_⟩
    · rw [quiet bytes [] [] (collect_ignored _ _ bytes hj) rfl, s.setCollecting_nil hc]
    · have hcol : collect 0xA5#8 frameExtent [] [0xA5#8, l] = ([], []) := by
        simp [collect, collectByte, frameExtent, hl]
      rw [quiet _ [] [] hcol rfl, s.setCollecting_nil hc]
    · exact quiet _ _ [] (collect_measurement_begun [] bytes (by simpa using hlt)) rfl
    · have hp : parseMeasurement (0xA5#8 :: 32#8 :: bytes) = none := by
        cases h : parseMeasurement (0xA5#8 :: 32#8 :: bytes) with
        | none => rfl
        | some slots => exact absurd (measurementBytes_of_parse _ slots h) (hbad slots)
      rw [quiet _ [] _ (collect_measurement_whole bytes hlen) (by simp [hp]), s.setCollecting_nil hc]

end Sys2Proof.Machine
end

section
/-! PROOFS. A step on an empty queue: the answer to an ask outstanding, or a millisecond (O3). -/

namespace Sys2Proof.Machine

/-! ## Asks outstanding (log 8) -/

theorem State.mem_asks (s : State) (p : PortId) (b : Block) : (p, b) ∈ s.asks ↔ b ∈ (s.port p).asked := by
  cases p <;> simp [State.asks]

theorem State.asks_eq_nil (s : State) : s.asks = [] ↔ ∀ p, (s.port p).asked = [] := by
  simp only [List.eq_nil_iff_forall_not_mem, Prod.forall, State.mem_asks]

/-- On an empty queue a step is what the part does by itself (log 3, 8). -/
theorem step_empty (s : State) (h : s.pending = []) : step s = .next s.idle := by
  rw [step, h]

theorem State.idle_of_no_asks (s : State) (h : s.asks = []) : s.idle = s.tick := by
  rw [State.idle, h]

/-- With asks outstanding, the answer taken is to one of them. -/
theorem State.idle_of_asks (s : State) (h : s.asks ≠ []) :
    ∃ e ∈ s.asks, s.idle = (s.setFreeIndex (s.freeIndex + 1)).answerAsk e.1 e.2 := by
  obtain ⟨first, rest, hc⟩ := List.exists_cons_of_ne_nil h
  have hk : Config.turn s.freeIndex % s.asks.length < s.asks.length :=
    Nat.mod_lt _ (List.length_pos_iff.mpr h)
  refine ⟨s.asks.getD (Config.turn s.freeIndex % s.asks.length) first, ?_, ?_⟩
  · rw [List.getD_eq_getElem?_getD, List.getElem?_eq_getElem hk, Option.getD_some]
    exact List.getElem_mem hk
  · have hi : s.idle = s.answerOne first := by rw [State.idle, hc]
    rw [hi, State.answerOne]

/-! ## A millisecond in which no moment is reached (log 3) -/

theorem State.tickClock_within (s : State) (hm : s.ssv.supply = .mains) (h : s.cck.phaseMs + 1 < 1000) :
    s.tickClock = s.setCck { s.cck with phaseMs := s.cck.phaseMs + 1 } := by
  have hr : s.clockRuns = true := by rw [State.clockRuns, hm]
  rw [State.tickClock, if_pos hr, if_neg (by rw [Config.tickMs]; omega), Config.tickMs]

theorem State.tickFrames_within (s : State) (hm : s.ssv.supply = .mains)
    (h : ∀ d, s.mfp.deadline = some d → s.mfp.timer + 1 < d) :
    s.tickFrames = s.setMfp { s.mfp with timer := s.mfp.timer + 1 } := by
  rw [State.tickFrames, if_pos (s.onMains_iff.mpr hm)]
  cases hd : s.mfp.deadline with
  | none => simp only [State.setMfp_mfp, Config.tickMs, hd]
  | some d =>
    have := h d hd
    simp only [State.setMfp_mfp, Config.tickMs, hd]
    rw [if_neg (by omega)]

theorem State.tickSession_stopped (s : State) (h : s.tcu.sessionMs = none) : s.tickSession = s := by
  rw [State.tickSession, h]

theorem State.tickGating_mains (s : State) (hm : s.ssv.supply = .mains) : s.tickGating = s := by
  unfold State.tickGating
  split
  · exact if_neg (by simp [hm])
  · rfl

/-- Settles O3: no timer reaches its moment, or one of the asks outstanding is answered. -/
theorem emptyQueueStepPassesMillisecond : Obligations.EmptyQueueStepPassesMillisecond := by
  constructor
  · intro s hq ha hm hp hs hd
    rw [step_empty s hq, s.idle_of_no_asks (s.asks_eq_nil.mpr ha), State.tick, s.tickClock_within hm hp,
      State.tickFrames_within, State.tickSession_stopped, State.tickGating_mains]
    · rfl
    · exact hm
    · exact hs
    · exact hm
    · exact hd
  · rintro s hq ⟨p, hp⟩
    have ha : s.asks ≠ [] := fun h => hp (s.asks_eq_nil.mp h p)
    obtain ⟨⟨q, b⟩, hb, he⟩ := s.idle_of_asks ha
    exact ⟨q, b, (s.mem_asks q b).mp hb, (step_empty s hq).trans (congrArg _ he)⟩

end Sys2Proof.Machine
end

section
/-! PROOFS. What every unit meets when it deals with DSC, with a request, or with its mail in MAINS: requests placed or
refused, reports taken, units in service. -/

namespace Sys2Proof.Machine

/-! ## Requests at DSC (R155, R158) -/

/-- A read is placed in FAULT too. -/
theorem State.enqueue_read (s : State) (c : Client) (ops : List ArrayOp) (hr : c.isRead = true) :
    s.enqueue c ops = placed s c ops (!(c.isImage || c.isConfig)) := by
  simp only [State.enqueue, hr, Bool.not_true, Bool.and_false, Bool.false_and, Bool.false_eq_true, if_false]
  rfl

/-- A request that writes or erases and has a client to tell is placed, or in FAULT refused at once. -/
theorem State.enqueue_eq_asked (s : State) (c : Client) (ops : List ArrayOp) (hr : c.isRead = false)
    (hh : c ≠ .holdup) (ht : s.refuseClient c = s.sendStore ⟨c, .refused, [], none⟩) :
    s.enqueue c ops = asked s c ops (!(c.isImage || c.isConfig)) := by
  cases hf : s.dsc.fault with
  | true =>
    rw [s.enqueue_refused c ops hf hr hh, ht, asked, if_pos hf]
    rfl
  | false =>
    rw [s.enqueue_placed c ops hf, asked, if_neg (by simp [hf])]
    rfl

/-- The oldest report to a unit is taken out of transit. -/
theorem State.takeStore_delivered (s : State) (u : Receiver) (m : StoreMail) (rest : List StoreMail)
    (h : Delivers s u m rest) : s.takeStore u = some (m, withStoreMail s rest) := by
  rw [State.takeStore, show takeFirst (fun x => x.client.receiver == u) s.mail.store = some (m, rest) from h]
  rfl

/-- What is taken first stands behind elements that fail the test. -/
theorem takeFirst_append {α : Type} (test : α → Bool) (pre : List α) (a : α) (post : List α)
    (hpre : ∀ x ∈ pre, test x = false) (ha : test a = true) :
    takeFirst test (pre ++ a :: post) = some (a, pre ++ post) := by
  induction pre with
  | nil => exact if_pos ha
  | cons x t ih =>
    have hx := hpre x (List.mem_cons_self ..)
    rw [List.cons_append, takeFirst, hx, ih fun y hy => hpre y (List.mem_cons_of_mem _ hy)]
    rfl

/-! ## Units in MAINS (R53, R188) -/

theorem State.inService_mains (s : State) (o : Owner) (hm : s.ssv.supply = .mains) : s.inService o = true := by
  simp only [State.inService, hm]

theorem State.takesDues_mains (s : State) (o : Owner) (hm : s.ssv.supply = .mains) : s.takesDues o = true := by
  rw [State.takesDues, s.inService_mains o hm, hm]
  rfl

end Sys2Proof.Machine
end

section
/-! PROOFS. IPU's open interval (chapter 5): how it opens, the record built at its close, and what joins it while it is open
(O24, O25). -/

namespace Sys2Proof.Machine

/-! ## The slot of a length that contains a time (R44) -/

theorem slotStartOf_mod (minutes t : Nat) : slotStartOf minutes t % (minutes * 60) = 0 := Nat.mul_mod_left ..

theorem slotStartOf_le (minutes t : Nat) : slotStartOf minutes t ≤ t := Nat.div_mul_le_self ..

theorem lt_slotStartOf_add (minutes t : Nat) (h : 0 < minutes) : t < slotStartOf minutes t + minutes * 60 :=
  Nat.lt_div_mul_add (by omega)

/-! ## The flags of an interval just opened (R81) -/

theorem Ipu.opened_flags (u : Ipu) (t gen band : Nat) :
    (u.opened t gen band).flags =
      { Quality.none with
        timeInvalid := !u.valid
        curtailed := !u.interlockClosed
        calendarChanged := u.calendarHold
        supplyLoss := (u.supplyMark.map fun m => decide (t ≤ m)).getD false } := by
  unfold Ipu.opened
  cases u.supplyMark <;> rfl

/-! ## The record of a close, numbered and queued (R87, R93, R94) -/

/-- The flags a close adds to those of the interval (R87). -/
theorem Ipu.record_flags (u : Ipu) (iv : OpenInterval) (c : Nat) :
    (u.record iv c).flags =
      { iv.flags with
        partialInterval := iv.flags.partialInterval || decide (iv.slotStart < iv.start ∨ c < iv.slotEnd)
        measurementGap := iv.flags.measurementGap || decide (0 < iv.missed)
        genAbsent := iv.flags.genAbsent || decide (iv.generation = none)
        registerRollback := iv.flags.registerRollback || u.owedRollback
        resetInput := iv.flags.resetInput || u.owedReset } := by
  have hgap : (iv.missed != 0) = decide (0 < iv.missed) := by cases iv.missed <;> rfl
  have hgen : iv.generation.isNone = decide (iv.generation = none) := by cases iv.generation <;> rfl
  rw [Bool.decide_or, ← Bool.or_assoc, ← hgap, ← hgen]
  rfl

/-- With the last number given no record is built (R93). -/
theorem Ipu.build_spent (u : Ipu) (iv : OpenInterval) (c : Nat) (h : u.numbersSpent = true) : u.build iv c = u :=
  if_pos h

/-- A record built takes the next number; a full queue drops it (R93, R94). -/
theorem Ipu.build_numbered (u : Ipu) (iv : OpenInterval) (c : Nat) (h : u.numbersSpent = false) :
    u.build iv c =
      { u with
        queue := if u.queue.length < 2 then u.queue ++ [u.record iv c] else u.queue
        nextNumber := if u.nextNumber = 4294967295 then u.nextNumber else u.nextNumber + 1
        numbersSpent := u.nextNumber == 4294967295
        owedRollback := false
        owedReset := false } := if_neg (by simp [h])

/-- Settles O24: the slot by the arithmetic of its length, the record by whether the last number is given or comes now. -/
theorem intervalOpensAndBuilds : Obligations.IntervalOpensAndBuilds := by
  intro u iv t c gen band hl
  refine ⟨?_, ?_⟩
  · exact ⟨slotStartOf_mod .., slotStartOf_le .., lt_slotStartOf_add _ _ hl, rfl, rfl, rfl, rfl, rfl, rfl, rfl, rfl,
      u.opened_flags t gen band⟩
  · intro r
    have hr : u.record iv c = r := congrArg (fun q => { u.record iv c with flags := q }) (u.record_flags iv c)
    refine ⟨u.build_spent iv c, fun hs hlt => ?_, fun hs hlast => ?_⟩
    · have hn : u.nextNumber ≠ 4294967295 := by omega
      rw [u.build_numbered iv c hs, hr, if_neg hn, beq_eq_false_iff_ne.mpr hn, ← hs]
    · rw [u.build_numbered iv c hs, hr, if_pos hlast, beq_iff_eq.mpr hlast]

/-! ## What joins the open interval (R82 to R85) -/

/-- A change of the open interval leaves everything but that interval. -/
theorem State.mapInterval_open (s : State) (iv : OpenInterval) (f : OpenInterval → OpenInterval)
    (h : s.ipu.interval = some iv) :
    s.mapInterval f = { s with ipu := { s.ipu with interval := some (f iv) } } := by
  rw [State.mapInterval, h]
  rfl

/-- A change of the open interval's flags leaves everything but those flags. -/
theorem State.flagInterval_open (s : State) (iv : OpenInterval) (f : Quality → Quality)
    (h : s.ipu.interval = some iv) :
    s.flagInterval f = { s with ipu := { s.ipu with interval := some (iv.flag f) } } := by
  rw [State.flagInterval, h]
  rfl

theorem EnergyMail.isMissed_eq_false (m : EnergyMail) (h : m ≠ .missed) : m.isMissed = false := by
  cases m with
  | missed => exact absurd rfl h
  | split => rfl

/-- A split increment at the head of IPU's energy messages joins the interval (R82). -/
theorem exec_ipuSplitIncrement_head (s : State) (sp : Split) (rest : List EnergyMail) (hm : s.ssv.supply = .mains)
    (hq : s.mail.ipuEnergy = .split sp :: rest) :
    exec .ipuSplitIncrement s =
      .next ((s.setMail { s.mail with ipuEnergy := rest }).mapInterval fun iv => iv.add sp) := by
  show execIpuSplitIncrement s = _
  rw [execIpuSplitIncrement, if_pos (s.takesDues_mains .ipu hm), hq]

/-- The oldest report of a missed epoch is counted, from behind the split increments ahead of it (R82). -/
theorem exec_ipuMissedEpochReport_oldest (s : State) (pre rest : List EnergyMail) (hm : s.ssv.supply = .mains)
    (hq : s.mail.ipuEnergy = pre ++ .missed :: rest) (hpre : ∀ m ∈ pre, m ≠ .missed) :
    exec .ipuMissedEpochReport s =
      .next ((s.setMail { s.mail with ipuEnergy := pre ++ rest }).mapInterval fun iv =>
        { iv with missed := satAdd 255 iv.missed 1 }) := by
  show execIpuMissedEpochReport s = _
  rw [execIpuMissedEpochReport, if_pos (s.inService_mains .ipu hm), hq,
    takeFirst_append EnergyMail.isMissed pre .missed rest (fun m h => m.isMissed_eq_false (hpre m h)) rfl]

theorem exec_ipuBandNotice_head (s : State) (n : BandNotice) (rest : List BandNotice) (hm : s.ssv.supply = .mains)
    (hq : s.mail.ipuBands = n :: rest) :
    exec .ipuBandNotice s = .next ((s.setMail { s.mail with ipuBands := rest }).mapInterval fun iv => iv.takeBand n) := by
  show execIpuBandNotice s = _
  rw [execIpuBandNotice, hq]
  exact congrArg _ (if_pos (s.inService_mains .ipu hm))

theorem OpenInterval.takeBand_eq (iv : OpenInterval) (n : BandNotice) :
    iv.takeBand n = { iv with band := if iv.start ≤ n.time ∧ n.time < iv.slotEnd then n.band else iv.band } := by
  unfold OpenInterval.takeBand
  split <;> rfl

theorem exec_ipuActivationNotice_head (s : State) (n : ActivationNotice) (rest : List ActivationNotice)
    (hm : s.ssv.supply = .mains) (hq : s.mail.ipuActivations = n :: rest) :
    exec .ipuActivationNotice s =
      .next ((s.setMail { s.mail with ipuActivations := rest }).takeActivation n.boundary) := by
  show execIpuActivationNotice s = _
  rw [execIpuActivationNotice, hq]
  exact congrArg _ (if_pos (s.inService_mains .ipu hm))

/-- An activation at the slot end is held for the next interval; any other marks the open one (R85). -/
theorem State.takeActivation_open (s : State) (iv : OpenInterval) (b : Nat) (h : s.ipu.interval = some iv) :
    s.takeActivation b =
      { s with ipu := { s.ipu with
        calendarHold := if b = iv.slotEnd then true else s.ipu.calendarHold
        interval := some
          (if b = iv.slotEnd then iv else { iv with flags := { iv.flags with calendarChanged := true } }) } } := by
  rw [State.takeActivation, h]
  by_cases hb : b = iv.slotEnd
  · simp only [hb, if_true, ← h]
    rfl
  · simp only [hb, if_false, s.flagInterval_open iv _ h]
    rfl

theorem exec_ipuInterlockReport_head (s : State) (closed : Bool) (rest : List Bool) (hm : s.ssv.supply = .mains)
    (hq : s.mail.ipuInterlock = closed :: rest) :
    exec .ipuInterlockReport s = .next ((s.setMail { s.mail with ipuInterlock := rest }).takeInterlock closed) := by
  show execIpuInterlockReport s = _
  rw [execIpuInterlockReport, hq]
  exact congrArg _ (if_pos (s.inService_mains .ipu hm))

/-- The view takes the report, and one that is not CLOSED curtails the open interval (R83). -/
theorem State.takeInterlock_open (s : State) (iv : OpenInterval) (closed : Bool) (h : s.ipu.interval = some iv) :
    s.takeInterlock closed =
      { s with ipu := { s.ipu with
        interlockClosed := closed
        interval := some { iv with flags := { iv.flags with curtailed := iv.flags.curtailed || !closed } } } } := by
  cases closed with
  | true =>
    simp only [Bool.not_true, Bool.or_false, ← h]
    rfl
  | false =>
    have hi : (s.setIpu { s.ipu with interlockClosed := false }).ipu.interval = some iv := h
    refine (State.flagInterval_open _ iv _ hi).trans ?_
    simp only [Bool.not_false, Bool.or_true]
    rfl

theorem exec_ipuTamperReport_waiting (s : State) (n : Nat) (hm : s.ssv.supply = .mains) (hq : s.mail.ipuTamper = n + 1) :
    exec .ipuTamperReport s =
      .next ((s.setMail { s.mail with ipuTamper := n }).flagInterval fun q => { q with tamper := true }) := by
  have hw : s.mail.ipuTamper ≠ 0 ∧ s.inService .ipu = true := ⟨by omega, s.inService_mains .ipu hm⟩
  show execIpuTamperReport s = _
  rw [execIpuTamperReport, if_pos hw, hq, Nat.add_sub_cancel]

/-- Settles O25: each message taken from its place, and what it does to the open interval. -/
theorem openIntervalTakesReports : Obligations.OpenIntervalTakesReports := by
  refine ⟨fun s iv hm hi => ⟨?_, ?_⟩, fun s iv hm hi => ⟨?_, ?_, ?_, ?_⟩⟩
  · intro sp rest hq
    exact (exec_ipuSplitIncrement_head s sp rest hm hq).trans (congrArg _ (State.mapInterval_open _ iv _ hi))
  · intro pre rest hq hpre
    exact (exec_ipuMissedEpochReport_oldest s pre rest hm hq hpre).trans
      (congrArg _ (State.mapInterval_open _ iv _ hi))
  · intro n rest hq
    refine (exec_ipuBandNotice_head s n rest hm hq).trans (congrArg _ ?_)
    simp only [OpenInterval.takeBand_eq]
    exact State.mapInterval_open _ iv _ hi
  · intro n rest hq ends
    exact (exec_ipuActivationNotice_head s n rest hm hq).trans (congrArg _ (State.takeActivation_open _ iv _ hi))
  · intro closed rest hq
    exact (exec_ipuInterlockReport_head s closed rest hm hq).trans
      (congrArg _ (State.takeInterlock_open _ iv _ hi))
  · intro n hq
    exact (exec_ipuTamperReport_waiting s n hm hq).trans (congrArg _ (State.flagInterval_open _ iv _ hi))

end Sys2Proof.Machine
end

section
/-! PROOFS. IPU's append queue and ring (chapter 5): the hand-over of a record, a settled append, and the erase-ahead of the
profile region (O28, O29). -/

namespace Sys2Proof.Machine

/-! ## Handing records over and asking for an erase-ahead (R94, R95) -/

/-- In MAINS IPU is in service, so that a record waits for an earlier one or for an erase-ahead alone. -/
theorem State.tryHand_mains (s : State) (hm : s.ssv.supply = .mains) : s.tryHand = handOver s := by
  unfold State.tryHand handOver
  cases s.ipu.queue with
  | nil => rfl
  | cons r rest =>
    have hfree : (!s.ipu.handed && s.ipu.erase == .idle && s.inService .ipu) = true
        ↔ s.ipu.handed = false ∧ s.ipu.erase = .idle := by simp [s.inService_mains .ipu hm]
    simp only [hfree]
    split
    · exact State.enqueue_eq_asked _ .append _ rfl nofun rfl
    · rfl

/-- The erase-ahead is of the sector at the write position. -/
theorem State.askProfileErase_eq (s : State) :
    s.askProfileErase =
      asked { s with ipu := { s.ipu with erase := .requested } } (.profileErase (15 + s.ipu.writePos / 128))
        [.erase (15 + s.ipu.writePos / 128)] true :=
  State.enqueue_eq_asked _ (.profileErase _) _ rfl nofun rfl

/-- What follows an advance of the write position: at a sector's first slot its erase-ahead, else the next record. -/
def afterAdvance (s : State) : State :=
  if s.ipu.writePos % 128 = 0 then
    asked { s with ipu := { s.ipu with erase := .requested } } (.profileErase (15 + s.ipu.writePos / 128))
      [.erase (15 + s.ipu.writePos / 128)] true
  else handOver s

theorem State.advanceWrite_mains (s : State) (hm : s.ssv.supply = .mains) :
    s.advanceWrite = afterAdvance { s with ipu := { s.ipu with writePos := (s.ipu.writePos + 1) % 4224 } } := by
  have hask := State.askProfileErase_eq (s.setIpu { s.ipu with writePos := (s.ipu.writePos + 1) % 4224 })
  have hhand := State.tryHand_mains (s.setIpu { s.ipu with writePos := (s.ipu.writePos + 1) % 4224 }) hm
  exact ite_congr rfl (fun _ => hask) fun _ => hhand

/-! ## A settled append (R94, R101) -/

theorem Reader.appended_eq (r : Reader) :
    r.appended =
      ({ r with ready := if r.threshold ≤ r.ready + 1 then 0 else r.ready + 1 }, decide (r.threshold ≤ r.ready + 1)) := by
  unfold Reader.appended
  split <;> simp [*]

theorem State.report_ready_ulk (s : State) (raised : Bool) :
    (if raised then s.report .ulk .profileReady true else s) =
      s.setMail { s.mail with ulk := s.mail.ulk ++ (if raised then [⟨.profileReady, true⟩] else []) } := by
  cases raised with
  | false => simp [State.setMail]
  | true => rfl

theorem State.report_ready_slk (s : State) (raised : Bool) :
    (if raised then s.report .slk .profileReady true else s) =
      s.setMail { s.mail with slk := s.mail.slk ++ (if raised then [⟨.profileReady, true⟩] else []) } := by
  cases raised with
  | false => simp [State.setMail]
  | true => rfl

/-- Each reader's count moves on or starts again, and PROFILE_READY goes to the port of one whose count is full (R101). -/
theorem State.countAppend_eq (s : State) :
    s.countAppend =
      { s with
        ipu := { s.ipu with
          utility := s.ipu.utility.appended.1
          site := s.ipu.site.appended.1 }
        mail := { s.mail with
          ulk := s.mail.ulk ++ (if s.ipu.utility.appended.2 then [⟨.profileReady, true⟩] else [])
          slk := s.mail.slk ++ (if s.ipu.site.appended.2 then [⟨.profileReady, true⟩] else []) } } := by
  simp only [State.countAppend, State.report_ready_ulk, State.report_ready_slk]
  rfl

theorem exec_profileAppendSettled_refused (s : State) (rs : List IntervalRecord) (fs : Option FrozenSet)
    (rest : List StoreMail) (h : Delivers s .ipu ⟨.append, .refused, rs, fs⟩ rest) :
    exec .profileAppendSettled s = .next (withStoreMail s rest).appendRefused := by
  show execProfileAppendSettled s = _
  rw [execProfileAppendSettled, s.takeStore_delivered _ _ _ h]

theorem exec_profileAppendSettled_completed (s : State) (rs : List IntervalRecord) (fs : Option FrozenSet)
    (rest : List StoreMail) (h : Delivers s .ipu ⟨.append, .completed, rs, fs⟩ rest) :
    exec .profileAppendSettled s = .next (withStoreMail s rest).appendDone := by
  show execProfileAppendSettled s = _
  rw [execProfileAppendSettled, s.takeStore_delivered _ _ _ h]

/-- A refused append drops the head record (R94). -/
theorem State.appendRefused_mains (s : State) (r : IntervalRecord) (queued : List IntervalRecord)
    (hm : s.ssv.supply = .mains) (hq : s.ipu.queue = r :: queued) :
    s.appendRefused =
      afterAdvance
        { s with ipu := { s.ipu with queue := queued, handed := false, writePos := (s.ipu.writePos + 1) % 4224 } } := by
  rw [State.appendRefused, hq]
  exact State.advanceWrite_mains _ hm

/-- A completed append: the head record joins the ring, and both readers count it (R94, R101, R163). -/
theorem State.appendDone_mains (s : State) (r : IntervalRecord) (queued : List IntervalRecord)
    (hm : s.ssv.supply = .mains) (hq : s.ipu.queue = r :: queued) :
    s.appendDone =
      (afterAdvance
        { s with
          ipu := { s.ipu with
            queue := queued
            handed := false
            writePos := (s.ipu.writePos + 1) % 4224
            ring := s.ipu.ring ++ [⟨r.number, s.ipu.writePos⟩]
            utility := s.ipu.utility.appended.1
            site := s.ipu.site.appended.1 }
          mail := { s.mail with
            ulk := s.mail.ulk ++ (if s.ipu.utility.appended.2 then [⟨.profileReady, true⟩] else [])
            slk := s.mail.slk ++ (if s.ipu.site.appended.2 then [⟨.profileReady, true⟩] else []) } }).wantImage := by
  simp only [State.appendDone, hq, State.countAppend_eq]
  exact congrArg State.wantImage (State.advanceWrite_mains _ hm)

/-- Settles O28: both outcomes let the write position advance over the queue's rest. -/
theorem profileAppendSettles : Obligations.ProfileAppendSettles := by
  intro s r queued rest rs fs hm hq w pos u goOn
  refine ⟨fun hd => ?_, fun hd => ?_⟩
  · rw [exec_profileAppendSettled_refused s rs fs rest hd, State.appendRefused_mains (withStoreMail s rest) r queued hm hq]
    rfl
  · intro uReady sReady uRaise sRaise
    rw [exec_profileAppendSettled_completed s rs fs rest hd, State.appendDone_mains (withStoreMail s rest) r queued hm hq]
    simp only [Reader.appended_eq, decide_eq_true_eq]
    rfl

/-! ## The erase-ahead (R95, R96) -/

/-- The highest number of some records is at most a bound where each of them is. -/
theorem foldl_max_number_le (l : List RingEntry) (a k : Nat) :
    l.foldl (fun acc e => max acc e.number) a ≤ k ↔ a ≤ k ∧ ∀ e ∈ l, e.number ≤ k := by
  induction l generalizing a with
  | nil => simp
  | cons e t ih =>
    rw [List.foldl_cons, ih, List.forall_mem_cons, Nat.max_le, and_assoc]

theorem foldl_max_number_eq (l : List RingEntry) (h : Nat) (hin : ∃ e ∈ l, e.number = h) (hle : ∀ e ∈ l, e.number ≤ h) :
    l.foldl (fun acc e => max acc e.number) 0 = h := by
  obtain ⟨e, he, rfl⟩ := hin
  have hupper := (foldl_max_number_le l 0 e.number).mpr ⟨Nat.zero_le _, hle⟩
  obtain ⟨_, hlower⟩ := (foldl_max_number_le l 0 _).mp (Nat.le_refl _)
  exact Nat.le_antisymm hupper (hlower e he)

/-- The grant over a sector with no record in the ring. -/
theorem Ipu.eraseGranted_empty (u : Ipu) (sector : Nat)
    (h : (u.ring.filter fun e => sectorOfSlot e.pos == sector) = []) :
    u.eraseGranted sector = { u with erase := .granted } := by
  simp only [Ipu.eraseGranted, h]

/-- The grant over a sector with records, the highest of number `h` (R96). -/
theorem Ipu.eraseGranted_records (u : Ipu) (sector h : Nat) (gone : List RingEntry)
    (hg : (u.ring.filter fun e => sectorOfSlot e.pos == sector) = gone) (hin : ∃ e ∈ gone, e.number = h)
    (hle : ∀ e ∈ gone, e.number ≤ h) :
    u.eraseGranted sector =
      { u with
        erase := .granted
        ring := u.ring.filter fun e => sectorOfSlot e.pos != sector
        utility := u.utility.removed gone h
        site := u.site.removed gone h } := by
  have hmax := foldl_max_number_eq gone h hin hle
  cases gone with
  | nil => exact absurd hin (by simp)
  | cons e t => simp only [Ipu.eraseGranted, hg, hmax]

theorem exec_profileEraseGrant_delivered (s : State) (sector : Nat) (rs : List IntervalRecord) (fs : Option FrozenSet)
    (rest : List StoreMail) (h : Delivers s .ipu ⟨.profileErase sector, .granted, rs, fs⟩ rest) :
    exec .profileEraseGrant s = .next { withStoreMail s rest with ipu := s.ipu.eraseGranted sector } := by
  show execProfileEraseGrant s = _
  rw [execProfileEraseGrant, s.takeStore_delivered _ _ _ h]
  rfl

theorem exec_profileEraseOutcome_completed (s : State) (sector : Nat) (rs : List IntervalRecord) (fs : Option FrozenSet)
    (rest : List StoreMail) (h : Delivers s .ipu ⟨.profileErase sector, .completed, rs, fs⟩ rest) :
    exec .profileEraseOutcome s =
      .next (State.tryHand { withStoreMail s rest with ipu := { s.ipu with erase := .idle } }) := by
  show execProfileEraseOutcome s = _
  rw [execProfileEraseOutcome, s.takeStore_delivered _ _ _ h]
  rfl

theorem exec_profileEraseOutcome_refused (s : State) (sector : Nat) (rs : List IntervalRecord) (fs : Option FrozenSet)
    (rest : List StoreMail) (h : Delivers s .ipu ⟨.profileErase sector, .refused, rs, fs⟩ rest) :
    exec .profileEraseOutcome s = .next (withStoreMail s rest) := by
  show execProfileEraseOutcome s = _
  rw [execProfileEraseOutcome, s.takeStore_delivered _ _ _ h]

/-- Settles O29: the grant by whether the sector holds records of the ring, and the two outcomes. -/
theorem eraseAheadAtProfile : Obligations.EraseAheadAtProfile := by
  intro s sector rest rs fs hm w gone
  refine ⟨fun hd => ⟨fun hg => ?_, fun h hin hle => ?_⟩, fun hd => ?_,
    exec_profileEraseOutcome_refused s sector rs fs rest⟩
  · rw [exec_profileEraseGrant_delivered s sector rs fs rest hd, s.ipu.eraseGranted_empty sector hg]
  · rw [exec_profileEraseGrant_delivered s sector rs fs rest hd, s.ipu.eraseGranted_records sector h gone rfl hin hle]
    rfl
  · exact (exec_profileEraseOutcome_completed s sector rs fs rest hd).trans (congrArg _ (State.tryHand_mains _ hm))

end Sys2Proof.Machine
end

section
/-! PROOFS. The readers of the profile (chapter 5): reads of the ring, what they answer, and acknowledgements (O30, O31). -/

namespace Sys2Proof.Machine

/-! ## Requests that reach IPU -/

/-- A port that admits a request collects no other frame. -/
theorem Admitted.between {s : State} {p : PortId} {code : Byte} {payload : List Byte} (h : Admitted s p code payload) :
    (s.port p).collecting = [] := by
  obtain ⟨_, _, _, _, hc⟩ := h
  exact hc

/-- An answer given in the event of the hand-over, where IPU has changed. -/
theorem State.reply_waiting_setIpu (s : State) (p : PortId) (code tag : Byte) (x : Ipu) (res : Result) (pl : List Byte) :
    ((waiting s p code tag).setIpu x).reply (nextOrigin s p) res pl = answered (s.setIpu x) p code tag res pl := by
  have hw : (waiting s p code tag).setIpu x = (s.setIpu x).setPort p ((waiting s p code tag).port p) := by
    cases p <;> rfl
  have hp : (s.setIpu x).port p = s.port p := by cases p <;> rfl
  rw [hw, State.reply_at_once s (s.setIpu x) p code tag res pl hp]

/-! ## The reader of a port (R97) -/

theorem Ipu.reader_eq (u : Ipu) (p : PortId) : u.reader p = if p = .slk then u.site else u.utility := by
  cases p <;> rfl

theorem Ipu.setReader_eq (u : Ipu) (p : PortId) (r : Reader) :
    u.setReader p r = if p = .slk then { u with site := r } else { u with utility := r } := by
  cases p <;> rfl

theorem Ipu.setReader_reader (u : Ipu) (p : PortId) : u.setReader p (u.reader p) = u := by
  cases p <;> rfl

/-! ## Reads of the ring (R98, R102) -/

theorem Ipu.select_eq (u : Ipu) (first n : Nat) :
    u.select first n = (u.ring.filter fun e => decide (first ≤ e.number ∧ e.number < u.limit)).take n := by
  simp only [Ipu.select, Bool.decide_and]

/-- An answer without records is its head and the count 0. -/
theorem Ipu.readAnswer_nothing (u : Ipu) (fromCursor : Bool) (p : PortId) :
    u.readAnswer fromCursor p [] [] =
      (if fromCursor then be 4 (u.reader p).cursor ++ be 2 (u.reader p).skip ++ be 4 u.limit
        else be 4 u.oldest ++ be 4 u.limit) ++ be 1 0 := List.append_nil _

theorem State.readRing_badCount (s : State) (p : PortId) (code tag : Byte) (fromCursor : Bool) (first n : Nat)
    (h : n < 1 ∨ 8 < n) :
    (waiting s p code tag).readRing fromCursor first n (nextOrigin s p) = answered s p code tag .badArgument [] := by
  rw [State.readRing, if_neg (by omega), State.reply_waiting]

/-- An empty selection is answered at once (log 18). -/
theorem State.readRing_empty (s : State) (p : PortId) (code tag : Byte) (fromCursor : Bool) (first n : Nat)
    (h1 : 1 ≤ n) (h8 : n ≤ 8) (hs : s.ipu.select first n = []) :
    (waiting s p code tag).readRing fromCursor first n (nextOrigin s p) =
      answered s p code tag .ok (s.ipu.readAnswer fromCursor p [] []) := by
  rw [State.readRing, if_pos ⟨h1, h8⟩, waiting_ipu, hs]
  exact s.reply_waiting p code tag .ok _

/-- The records selected are asked of DSC (R98, R102, R155). -/
theorem State.readRing_selected (s : State) (p : PortId) (code tag : Byte) (fromCursor : Bool) (first n : Nat)
    (h1 : 1 ≤ n) (h8 : n ≤ 8) (es : List RingEntry) (hs : s.ipu.select first n = es) (hne : es ≠ []) :
    (waiting s p code tag).readRing fromCursor first n (nextOrigin s p) =
      placed (waiting s p code tag) (.profileRead fromCursor (es.map fun e => e.number) (nextOrigin s p))
        (readOps es) true := by
  obtain ⟨e, t, rfl⟩ := List.exists_cons_of_ne_nil hne
  rw [State.readRing, if_pos ⟨h1, h8⟩, waiting_ipu, hs]
  exact State.enqueue_read _ _ _ rfl

theorem exec_readProfile_admitted (s : State) (p : PortId) (tag : Byte) (payload : List Byte)
    (h : Admitted s p 0x40 payload) (hl : payload.length = 1) :
    exec (.readProfile p tag payload) s =
      .next ((waiting s p 0x40 tag).readRing true (s.ipu.reader p).cursor (ofBe payload) (nextOrigin s p)) := by
  show execReadProfile p tag payload s = _
  rw [execReadProfile, State.arrive_between _ _ _ _ h.between, serveReadProfile, readNumber, if_pos hl,
    State.serveWith_admitted _ _ _ _ _ _ _ h, waiting_ipu]
  rfl

theorem exec_readProfileAt_admitted (s : State) (p : PortId) (tag : Byte) (payload : List Byte)
    (h : Admitted s p 0x42 payload) (hl : payload.length = 5) :
    exec (.readProfileAt p tag payload) s =
      .next ((waiting s p 0x42 tag).readRing false (ofBe (payload.take 4)) (ofBe (payload.drop 4)) (nextOrigin s p)) := by
  show execReadProfileAt p tag payload s = _
  rw [execReadProfileAt, State.arrive_between _ _ _ _ h.between, serveReadProfileAt, readAt, if_pos hl,
    State.serveWith_admitted _ _ _ _ _ _ _ h]

theorem exec_profileReadCompletion_delivered (s : State) (cur : Bool) (chosen : List Nat) (o : Origin)
    (rs : List IntervalRecord) (fs : Option FrozenSet) (rest : List StoreMail)
    (h : Delivers s .ipu ⟨.profileRead cur chosen o, .completed, rs, fs⟩ rest) :
    exec .profileReadCompletion s =
      .next (concluded (withStoreMail s rest) o .ok (s.ipu.readAnswer cur o.port chosen rs)) := by
  show execProfileReadCompletion s = _
  rw [execProfileReadCompletion, s.takeStore_delivered _ _ _ h, ← State.reply_eq_concluded]
  rfl

/-! ## A profile slot's bytes (R152, R213) -/

theorem Store.recordSlot_whole (st : Store) (n : Nat) (r : IntervalRecord) (h : st.profile.lookup n = some (.whole r)) :
    st.recordSlot n = some r.bytes := by
  rw [Store.recordSlot, h]
  rfl

theorem Store.recordSlot_erased (st : Store) (n : Nat) (h : st.profile.lookup n = none) :
    st.recordSlot n = some (List.replicate 32 0xFF#8) := by
  rw [Store.recordSlot, h]
  rfl

/-- Settles O30: each read by its count and its selection, the completed read by the answer, the bytes by their layout. -/
theorem profileReadsSelect : Obligations.ProfileReadsSelect := by
  intro s p tag limit oldest pick reader cursorHead atHead
  have hreader : s.ipu.reader p = reader := s.ipu.reader_eq p
  have hpick (first n : Nat) : s.ipu.select first n = pick first n := s.ipu.select_eq first n
  refine ⟨?_, ?_, ?_, ?_⟩
  · intro payload ha hl n es
    have hes : s.ipu.select (s.ipu.reader p).cursor n = es := by rw [hpick, hreader]
    rw [exec_readProfile_admitted s p tag payload ha hl]
    refine ⟨fun hn => ?_, fun h1 h8 he => ?_, fun h1 h8 he => ?_⟩
    · rw [s.readRing_badCount p _ tag true _ _ hn]
    · rw [s.readRing_empty p _ tag true _ _ h1 h8 (hes.trans he), s.ipu.readAnswer_nothing, hreader]
      rfl
    · rw [s.readRing_selected p _ tag true _ _ h1 h8 es hes he]
  · intro payload ha hl n es
    rw [exec_readProfileAt_admitted s p tag payload ha hl]
    refine ⟨fun hn => ?_, fun h1 h8 he => ?_, fun h1 h8 he => ?_⟩
    · rw [s.readRing_badCount p _ tag false _ _ hn]
    · rw [s.readRing_empty p _ tag false _ _ h1 h8 ((hpick _ _).trans he), s.ipu.readAnswer_nothing]
      rfl
    · rw [s.readRing_selected p _ tag false _ _ h1 h8 es (hpick _ _) he]
  · intro cur chosen serial rs fs rest hd kept
    rw [exec_profileReadCompletion_delivered s cur chosen _ rs fs rest hd, Ipu.readAnswer, hreader]
    rfl
  · intro r n
    exact ⟨rfl, r.bytes_length, r.slot_valid, s.store.recordSlot_whole n r, s.store.recordSlot_erased n⟩

/-! ## Acknowledgements (R99) -/

theorem exec_ackProfile_admitted (s : State) (p : PortId) (tag : Byte) (payload : List Byte)
    (h : Admitted s p 0x41 payload) (hl : payload.length = 4) :
    exec (.ackProfile p tag payload) s =
      .next (State.acknowledge (ofBe payload) (nextOrigin s p) (waiting s p 0x41 tag)) := by
  show execAckProfile p tag payload s = _
  rw [execAckProfile, State.arrive_between _ _ _ _ h.between, serveAckProfile, readNumber, if_pos hl,
    State.serveWith_admitted _ _ _ _ _ _ _ h]

/-- An acknowledgement at or above the readable limit is refused. -/
theorem State.acknowledge_beyond (s : State) (p : PortId) (code tag : Byte) (last : Nat)
    (hc : (s.ipu.reader p).cursor ≤ last) (hl : s.ipu.limit ≤ last) :
    State.acknowledge last (nextOrigin s p) (waiting s p code tag) = answered s p code tag .badArgument [] := by
  rw [State.acknowledge, waiting_ipu]
  exact (if_pos ⟨hc, hl⟩).trans (s.reply_waiting p code tag .badArgument [])

/-- Any other acknowledgement is answered OK by the reader of the port, moved or not. -/
theorem State.acknowledge_taken (s : State) (p : PortId) (code tag : Byte) (last : Nat)
    (h : ¬ ((s.ipu.reader p).cursor ≤ last ∧ s.ipu.limit ≤ last)) :
    State.acknowledge last (nextOrigin s p) (waiting s p code tag) =
      answered (s.setIpu (s.ipu.setReader p ((s.ipu.reader p).acknowledge last))) p code tag .ok [] := by
  rw [State.acknowledge, waiting_ipu]
  exact (if_neg h).trans (s.reply_waiting_setIpu p code tag _ .ok [])

/-- Settles O31: by where the number stands against the cursor and the readable limit. -/
theorem ackProfileMovesCursor : Obligations.AckProfileMovesCursor := by
  intro s p tag payload ha hl last limit reader moved
  have hreader : s.ipu.reader p = reader := s.ipu.reader_eq p
  rw [exec_ackProfile_admitted s p tag payload ha hl]
  refine ⟨fun hlt => ?_, fun hc hlt => ?_, fun hc hle => ?_⟩
  · have hkeep : reader.acknowledge last = reader := if_pos hlt
    rw [s.acknowledge_taken p _ tag last (by rw [hreader]; omega), hreader, hkeep, ← hreader, Ipu.setReader_reader]
    rfl
  · have hmove : reader.acknowledge last = moved := if_neg (by omega)
    have hbelow : ¬ s.ipu.limit ≤ last := Nat.not_le_of_lt hlt
    rw [s.acknowledge_taken p _ tag last fun h => hbelow h.2, hreader, hmove, Ipu.setReader_eq]
    rfl
  · rw [s.acknowledge_beyond p _ tag last (by rw [hreader]; exact hc) hle]

end Sys2Proof.Machine
end

section
/-! PROOFS. The interval length (chapter 5): a write judged when it is taken and when DSC completes it, and the write that puts
the old length back (O32). -/

namespace Sys2Proof.Machine

/-! ## The two judgements (R79, R90) -/

theorem allowedLength_iff (v : Nat) : allowedLength v = true ↔ v = 5 ∨ v = 10 ∨ v = 15 ∨ v = 30 ∨ v = 60 := by
  simp only [allowedLength, Bool.or_eq_true, beq_iff_eq, or_assoc]

theorem Tcu.misaligned_iff (u : Tcu) (minutes : Nat) :
    u.misaligned minutes = true ↔ ∃ m ∈ u.switchMinutes, m % minutes ≠ 0 := by
  simp only [Tcu.misaligned, List.any_eq_true, bne_iff_ne]

/-! ## A write taken (R90, R91) -/

theorem exec_writeConfigIntervalLength_admitted (s : State) (p : PortId) (tag v : Byte) (h : Admitted s p 0x11 [3, v]) :
    exec (.writeConfigIntervalLength p tag [v]) s =
      .next ((waiting s p 0x11 tag).writeLength v.toNat (nextOrigin s p)) := by
  have hv : ofBe [v] = v.toNat := Nat.zero_add _
  show execWriteConfigIntervalLength p tag [v] s = _
  rw [execWriteConfigIntervalLength, State.arrive_between _ _ _ _ h.between, ← hv]
  exact congrArg _ (s.serve_admitted p 0x11 tag [3, v] _ h)

/-- A second write is refused while one is under way (R91). -/
theorem State.writeLength_busy (s : State) (v : Nat) (o : Origin) (h : s.ipu.underWrite ≠ none) :
    s.writeLength v o = s.reply o .busy [] := if_pos (Option.isSome_iff_ne_none.mpr h)

/-- A write taken while none is under way goes by its value and then by the switch points of both calendars (R90). -/
theorem State.writeLength_free (s : State) (v : Nat) (o : Origin) (h : s.ipu.underWrite = none) :
    s.writeLength v o =
      if allowedLength v = true then
        if s.tcu.misaligned v = true then s.reply o .validationFailed [5, 0xFF]
        else
          asked (s.setIpu { s.ipu with underWrite := some v }) (.lengthWrite v s.dsc.held.length o) [] false
      else s.reply o .badArgument [] := by
  have hask := State.enqueue_eq_asked (s.setIpu { s.ipu with underWrite := some v })
    (.lengthWrite v s.dsc.held.length o) [] rfl nofun rfl
  simp only [State.writeLength, h, Option.isSome_none, Bool.false_eq_true, if_false, hask]
  cases allowedLength v <;> rfl

/-! ## DSC's reports on a write (R90) -/

theorem exec_intervalLengthWriteCompletion_completed (s : State) (v before : Nat) (o : Origin)
    (rs : List IntervalRecord) (fs : Option FrozenSet) (rest : List StoreMail)
    (h : Delivers s .ipu ⟨.lengthWrite v before o, .completed, rs, fs⟩ rest) :
    exec .intervalLengthWriteCompletion s = .next ((withStoreMail s rest).lengthWritten v before o) := by
  show execIntervalLengthWriteCompletion s = _
  rw [execIntervalLengthWriteCompletion, s.takeStore_delivered _ _ _ h]

/-- A completed write that is aligned still becomes the pending length; one equal to the current length leaves none. -/
theorem State.lengthWritten_aligned (s : State) (v before : Nat) (o : Origin) (h : s.tcu.misaligned v = false) :
    s.lengthWritten v before o =
      concluded
        { s with ipu := { s.ipu with
          underWrite := none, pendingLength := if v = s.ipu.length then none else some v } } o .ok [] := by
  rw [State.lengthWritten, h, State.reply_eq_concluded]
  rfl

/-- A completed write that is aligned no longer is put back. -/
theorem State.lengthWritten_misaligned (s : State) (v before : Nat) (o : Origin) (h : s.tcu.misaligned v = true) :
    s.lengthWritten v before o = asked s (.lengthRestore before o) [] false := by
  rw [State.lengthWritten, if_pos h]
  exact State.enqueue_eq_asked _ (.lengthRestore before o) _ rfl nofun rfl

theorem exec_intervalLengthWriteCompletion_refused (s : State) (v before : Nat) (o : Origin)
    (rs : List IntervalRecord) (fs : Option FrozenSet) (rest : List StoreMail)
    (h : Delivers s .ipu ⟨.lengthWrite v before o, .refused, rs, fs⟩ rest) :
    exec .intervalLengthWriteCompletion s =
      .next (concluded { withStoreMail s rest with ipu := { s.ipu with underWrite := none } } o .storeFault []) := by
  show execIntervalLengthWriteCompletion s = _
  rw [execIntervalLengthWriteCompletion, s.takeStore_delivered _ _ _ h, ← State.reply_eq_concluded]
  rfl

theorem exec_intervalLengthRestoreCompletion_completed (s : State) (before : Nat) (o : Origin)
    (rs : List IntervalRecord) (fs : Option FrozenSet) (rest : List StoreMail)
    (h : Delivers s .ipu ⟨.lengthRestore before o, .completed, rs, fs⟩ rest) :
    exec .intervalLengthRestoreCompletion s =
      .next
        (concluded { withStoreMail s rest with ipu := { s.ipu with underWrite := none } } o .validationFailed
          [5, 0xFF]) := by
  show execIntervalLengthRestoreCompletion s = _
  rw [execIntervalLengthRestoreCompletion, s.takeStore_delivered _ _ _ h, ← State.reply_eq_concluded]
  rfl

theorem exec_intervalLengthRestoreCompletion_refused (s : State) (before : Nat) (o : Origin)
    (rs : List IntervalRecord) (fs : Option FrozenSet) (rest : List StoreMail)
    (h : Delivers s .ipu ⟨.lengthRestore before o, .refused, rs, fs⟩ rest) :
    exec .intervalLengthRestoreCompletion s =
      .next (concluded { withStoreMail s rest with ipu := { s.ipu with underWrite := none } } o .storeFault []) := by
  show execIntervalLengthRestoreCompletion s = _
  rw [execIntervalLengthRestoreCompletion, s.takeStore_delivered _ _ _ h, ← State.reply_eq_concluded]
  rfl

/-- Settles O32: the write taken by R90's checks in their order, its completion by the alignment alone. -/
theorem intervalLengthWrites : Obligations.IntervalLengthWrites := by
  intro s p tag v minutes allowed misaligned
  have hallowed : allowedLength minutes = true ↔ allowed := allowedLength_iff minutes
  have hmis : s.tcu.misaligned minutes = true ↔ misaligned := s.tcu.misaligned_iff minutes
  refine ⟨fun ha => ?_, fun o before rs fs rest => ?_⟩
  · have hipu : (waiting s p 0x11 tag).ipu = s.ipu := waiting_ipu ..
    have hfree := State.writeLength_free (waiting s p 0x11 tag) minutes (nextOrigin s p)
    rw [hipu, waiting_tcu, waiting_dsc, State.reply_waiting, State.reply_waiting] at hfree
    rw [exec_writeConfigIntervalLength_admitted s p tag v ha]
    refine ⟨fun hu => ?_, fun hu hbad => ?_, fun hu hok hm => ?_, fun hu hok hm => ?_⟩
    · rw [State.writeLength_busy _ _ _ (hipu.symm ▸ hu), State.reply_waiting]
    · rw [hfree hu, if_neg (mt hallowed.mp hbad)]
    · rw [hfree hu, if_pos (hallowed.mpr hok), if_pos (hmis.mpr hm)]
    · rw [hfree hu, if_pos (hallowed.mpr hok), if_neg (mt hmis.mp hm)]
      rfl
  · intro w
    refine ⟨fun hd => ?_, exec_intervalLengthWriteCompletion_refused s minutes before o rs fs rest,
      exec_intervalLengthRestoreCompletion_completed s before o rs fs rest,
      exec_intervalLengthRestoreCompletion_refused s before o rs fs rest⟩
    rw [exec_intervalLengthWriteCompletion_completed s minutes before o rs fs rest hd]
    refine ⟨fun hm => ?_, fun hm => ?_⟩
    · exact congrArg _ (State.lengthWritten_aligned w minutes before o (Bool.eq_false_iff.mpr (mt hmis.mp hm)))
    · exact congrArg _ (State.lengthWritten_misaligned w minutes before o (hmis.mpr hm))

end Sys2Proof.Machine
end

section
/-! PROOFS. BFU's freezes (chapter 6): a freeze requested, the outcomes of the captured set's write, and the erase-ahead of
the frozen-set region (O33, O37, O38). -/

namespace Sys2Proof.Machine

/-! ## Taking a freeze (R110) -/

/-- BFU hands its captured set over unless it is handed already or an erase-ahead is outstanding. -/
theorem State.handFreeze_eq (s : State) : s.handFreeze = handSet s := by
  unfold State.handFreeze handSet
  cases s.bfu.captured with
  | none => rfl
  | some f =>
    have hfree : (!s.bfu.handed && s.bfu.erase == .idle) = true ↔ s.bfu.handed = false ∧ s.bfu.erase = .idle := by simp
    simp only [hfree]
    split
    · exact State.enqueue_eq_asked _ .frozenWrite _ rfl nofun rfl
    · rfl

theorem State.takeFreeze_spent (s : State) (cause : FreezeCause) (date : Option Date) (h : s.bfu.counter = 4294967295) :
    s.takeFreeze cause date = s := if_pos h

theorem State.takeFreeze_counted (s : State) (cause : FreezeCause) (date : Option Date) (h : s.bfu.counter ≠ 4294967295) :
    s.takeFreeze cause date = freezeTaken s cause date := (if_neg h).trans (State.handFreeze_eq _)

/-! ## What a freeze leaves of the ports (R112) -/

theorem asked_setPort (s : State) (p : PortId) (x : Port) (c : Client) (ops : List ArrayOp) (built : Bool) :
    asked (s.setPort p x) c ops built = (asked s c ops built).setPort p x := by
  unfold asked
  rw [State.setPort_dsc]
  split <;> cases p <;> rfl

theorem handSet_setPort (s : State) (p : PortId) (x : Port) : handSet (s.setPort p x) = (handSet s).setPort p x := by
  unfold handSet
  rw [State.setPort_bfu]
  cases s.bfu.captured with
  | none => rfl
  | some f =>
    simp only
    split
    · rw [← asked_setPort]
      cases p <;> rfl
    · rfl

theorem freezeTaken_setPort (s : State) (p : PortId) (x : Port) (cause : FreezeCause) (date : Option Date) :
    freezeTaken (s.setPort p x) cause date = (freezeTaken s cause date).setPort p x := by
  rw [freezeTaken, freezeTaken, ← handSet_setPort]
  cases p <;> rfl

/-- A freeze leaves every port as it is. -/
theorem freezeTaken_port (s : State) (p : PortId) (cause : FreezeCause) (date : Option Date) :
    (freezeTaken s cause date).port p = s.port p := by
  have h := freezeTaken_setPort s p (s.port p) cause date
  rw [State.setPort_port] at h
  rw [h, State.port_setPort]

/-! ## A freeze requested (R110, R112) -/

theorem exec_freeze_admitted (s : State) (p : PortId) (tag : Byte) (h : Admitted s p 0x50 []) :
    exec (.freeze p tag []) s = .next (State.requestFreeze (nextOrigin s p) (waiting s p 0x50 tag)) := by
  show execFreeze p tag [] s = _
  rw [execFreeze, State.arrive_between _ _ _ _ h.between, serveFreeze, readEmpty, if_pos rfl,
    State.serveWith_admitted _ _ _ _ _ _ _ h]

theorem State.requestFreeze_captured (s : State) (o : Origin) (h : s.bfu.captured.isSome = true) :
    s.requestFreeze o = s.reply o .freezeInProgress [] := if_pos h

theorem State.requestFreeze_idle (s : State) (o : Origin) (h : s.bfu.captured = none) :
    s.requestFreeze o =
      if s.bfu.counter = 4294967295 then s.reply o .badArgument []
      else (s.takeFreeze .requested none).reply o .ok (s.capture .requested none).answer :=
  if_neg (by rw [h]; exact Bool.false_ne_true)

/-- The answer of FREEZE tells the number, the time and the TIME_INVALID flag of the set captured (R219). -/
theorem State.capture_answer (s : State) (cause : FreezeCause) (date : Option Date) :
    (s.capture cause date).answer =
      be 4 (s.bfu.counter + 1) ++ be 4 s.cck.time ++ be 1 (if s.cck.valid then 0 else 1) := by
  rw [FrozenSet.answer, State.capture]
  cases s.cck.valid <;> rfl

/-- An answer given in the event of the hand-over, where BFU has taken a freeze. -/
theorem State.reply_waiting_freeze (s : State) (p : PortId) (code tag : Byte) (cause : FreezeCause) (date : Option Date)
    (res : Result) (pl : List Byte) :
    (freezeTaken (waiting s p code tag) cause date).reply (nextOrigin s p) res pl =
      answered (freezeTaken s cause date) p code tag res pl := by
  have hw : freezeTaken (waiting s p code tag) cause date =
      (freezeTaken s cause date).setPort p ((waiting s p code tag).port p) := by
    rw [waiting, freezeTaken_setPort, State.port_setPort]
  rw [hw, State.reply_at_once _ _ _ _ _ _ _ (freezeTaken_port s p cause date)]

/-- Settles O33: by BFU's state, and in IDLE by whether the last number has been given. -/
theorem freezeRequestJudged : Obligations.FreezeRequestJudged := by
  intro s p tag ha
  rw [exec_freeze_admitted s p tag ha]
  have hbfu : (waiting s p 0x50 tag).bfu = s.bfu := waiting_bfu ..
  refine ⟨fun f hf => ?_, fun hi hl => ?_, fun hi hl => ?_⟩
  · have hsome : (waiting s p 0x50 tag).bfu.captured.isSome = true := by rw [hbfu, hf]; rfl
    rw [State.requestFreeze_captured _ _ hsome, State.reply_waiting]
  · rw [State.requestFreeze_idle _ _ (hbfu ▸ hi), hbfu, if_pos hl, State.reply_waiting]
  · rw [State.requestFreeze_idle _ _ (hbfu ▸ hi), hbfu, if_neg hl, State.takeFreeze_counted _ _ _ (hbfu ▸ hl),
      State.capture_answer, State.reply_waiting_freeze, hbfu, waiting_cck]

/-! ## The write position moves on (R114, R115, R118) -/

/-- The write position past the slot of the set written or refused. -/
def pastSlot (s : State) : State :=
  { s with bfu := { s.bfu with handed := false, writePos := (s.bfu.writePos + 1) % 32 } }

/-- The erase-ahead of the sector at the write position, still to be asked of DSC. -/
def eraseWanted (s : State) : State := { s with bfu := { s.bfu with erase := .requested } }

/-- DSC asked for the erase-ahead of the sector at the write position. -/
def eraseAsked (s : State) : State :=
  asked (eraseWanted s) (.frozenErase (5 + s.bfu.writePos / 16)) [.erase (5 + s.bfu.writePos / 16)] true

theorem State.askFrozenErase_eq (s : State) : s.askFrozenErase = eraseAsked s :=
  State.enqueue_eq_asked _ (.frozenErase _) _ rfl nofun rfl

/-- At a sector's first slot the erase-ahead is wanted, and asked for outside a restore's write step. -/
theorem State.advanceFrozen_eq (s : State) :
    s.advanceFrozen =
      if (pastSlot s).bfu.writePos % 16 = 0 then
        if s.ssv.writeStep then eraseWanted (pastSlot s) else eraseAsked (pastSlot s)
      else pastSlot s :=
  ite_congr rfl (fun _ => ite_congr rfl (fun _ => rfl) fun _ => State.askFrozenErase_eq (pastSlot s)) fun _ => rfl

@[simp] theorem asked_bfu (s : State) (c : Client) (ops : List ArrayOp) (built : Bool) :
    (asked s c ops built).bfu = s.bfu := by
  unfold asked
  split <;> rfl

/-- All that the advance changes of BFU: the write position, the hand-over and the erase state. -/
theorem State.advanceFrozen_bfu (s : State) :
    ∃ e, s.advanceFrozen.bfu = { (pastSlot s).bfu with erase := e } := by
  rw [State.advanceFrozen_eq]
  split
  · refine ⟨.requested, ?_⟩
    split
    · rfl
    · exact asked_bfu ..
  · exact ⟨s.bfu.erase, rfl⟩

/-- The completed set at history index 0, and the write position past its slot. -/
def setRecorded (s : State) (f : FrozenSet) : State :=
  pastSlot
    { s with bfu := { s.bfu with captured := none, history := ⟨f.number, s.bfu.writePos, false⟩ :: s.bfu.history } }

theorem State.joinHistory_service (s : State) (f : FrozenSet) (hw : s.ssv.writeStep = false) :
    s.joinHistory f =
      if (setRecorded s f).bfu.writePos % 16 = 0 then eraseAsked (setRecorded s f) else setRecorded s f :=
  (State.advanceFrozen_eq _).trans
    (ite_congr rfl (fun _ => if_neg (hw.symm ▸ Bool.false_ne_true)) fun _ => rfl)

theorem State.joinHistory_writeStep (s : State) (f : FrozenSet) (hw : s.ssv.writeStep = true) :
    s.joinHistory f =
      if (setRecorded s f).bfu.writePos % 16 = 0 then eraseWanted (setRecorded s f) else setRecorded s f :=
  (State.advanceFrozen_eq _).trans (ite_congr rfl (fun _ => if_pos hw) fun _ => rfl)

/-! ## The outcomes of the write (R114, R115, R122) -/

theorem exec_frozenSetWriteCompletion_delivered (s : State) (rs : List IntervalRecord) (fs : Option FrozenSet)
    (rest : List StoreMail) (h : Delivers s .bfu ⟨.frozenWrite, .completed, rs, fs⟩ rest) :
    exec .frozenSetWriteCompletion s = .next (withStoreMail s rest).frozenWritten := by
  show execFrozenSetWriteCompletion s = _
  rw [execFrozenSetWriteCompletion, s.takeStore_delivered _ _ _ h]

theorem exec_frozenSetWriteRefusal_delivered (s : State) (rs : List IntervalRecord) (fs : Option FrozenSet)
    (rest : List StoreMail) (h : Delivers s .bfu ⟨.frozenWrite, .refused, rs, fs⟩ rest) :
    exec .frozenSetWriteRefusal s = .next (withStoreMail s rest).advanceFrozen.endWriteStep := by
  show execFrozenSetWriteRefusal s = _
  rw [execFrozenSetWriteRefusal, s.takeStore_delivered _ _ _ h]

/-- In a restore's write step there is neither FREEZE_DONE nor a freeze (R122). -/
theorem State.frozenWritten_writeStep (s : State) (f : FrozenSet) (hc : s.bfu.captured = some f)
    (hw : s.ssv.writeStep = true) : s.frozenWritten = (s.joinHistory f).endWriteStep.wantImage := by
  rw [State.frozenWritten, hc]
  exact congrArg State.wantImage (if_pos hw)

theorem State.frozenWritten_service (s : State) (f : FrozenSet) (hc : s.bfu.captured = some f)
    (hw : s.ssv.writeStep = false) :
    s.frozenWritten = ((s.joinHistory f).report .ulk .freezeDone true).takeDeferred.wantImage := by
  rw [State.frozenWritten, hc]
  exact congrArg State.wantImage (if_neg (by rw [hw]; exact Bool.false_ne_true))

/-- A deferred freeze is taken where a number is left for it; its flag is cleared in every case (log 30). -/
theorem State.takeDeferred_eq (s : State) :
    s.takeDeferred =
      if s.bfu.deferred ∧ s.bfu.counter ≠ 4294967295 then
        freezeTaken { s with bfu := { s.bfu with deferred := false } } .scheduled s.bfu.lastDate
      else { s with bfu := { s.bfu with deferred := false } } := by
  unfold State.takeDeferred
  by_cases hd : s.bfu.deferred = true
  · rw [if_pos hd]
    by_cases hl : s.bfu.counter = 4294967295
    · rw [if_neg fun h => h.2 hl]
      exact State.takeFreeze_spent _ _ _ hl
    · rw [if_pos ⟨hd, hl⟩]
      exact State.takeFreeze_counted _ _ _ hl
  · have hclear : ({ s.bfu with deferred := false } : Bfu) = s.bfu := by rw [← Bool.eq_false_iff.mpr hd]
    rw [if_neg hd, if_neg fun h => hd h.1, hclear]

/-- What decides on the deferred freeze stands through the completion of the set before it. -/
theorem State.joinHistory_deferral (s : State) (f : FrozenSet) :
    (s.joinHistory f).bfu.deferred = s.bfu.deferred ∧ (s.joinHistory f).bfu.counter = s.bfu.counter
      ∧ (s.joinHistory f).bfu.lastDate = s.bfu.lastDate := by
  obtain ⟨e, he⟩ := State.advanceFrozen_bfu
    (s.setBfu { s.bfu with captured := none, history := ⟨f.number, s.bfu.writePos, false⟩ :: s.bfu.history })
  rw [State.joinHistory, he]
  exact ⟨rfl, rfl, rfl⟩

/-- Settles O37: by whether units have resumed, the advance of the write position by its place in the sector. -/
theorem frozenSetWriteOutcomes : Obligations.FrozenSetWriteOutcomes := by
  refine ⟨?_, ?_⟩
  · intro s f rest rs fs hd hc pos t erasing done
    rw [exec_frozenSetWriteCompletion_delivered s rs fs rest hd]
    refine ⟨?_, ?_⟩
    · intro hw u
      have hu : ((withStoreMail s rest).joinHistory f).report .ulk .freezeDone true = u :=
        congrArg done (State.joinHistory_service (withStoreMail s rest) f hw)
      obtain ⟨hdef, hcnt, hdate⟩ : u.bfu.deferred = s.bfu.deferred ∧ u.bfu.counter = s.bfu.counter
          ∧ u.bfu.lastDate = s.bfu.lastDate := hu ▸ State.joinHistory_deferral (withStoreMail s rest) f
      rw [State.frozenWritten_service (withStoreMail s rest) f hc hw, hu, State.takeDeferred_eq, hdef, hcnt, hdate]
      exact congrArg _ (apply_ite State.wantImage ..)
    · intro hw u
      have hu : (withStoreMail s rest).joinHistory f = u := State.joinHistory_writeStep (withStoreMail s rest) f hw
      rw [State.frozenWritten_writeStep (withStoreMail s rest) f hc hw, hu]
      rfl
  · intro s rest rs fs hd pos t erasing u
    have hu : (withStoreMail s rest).advanceFrozen = u := (State.advanceFrozen_eq _).trans (ite_not ..).symm
    rw [exec_frozenSetWriteRefusal_delivered s rs fs rest hd, hu]
    rfl

/-! ## The erase-ahead (R118) -/

theorem exec_frozenSetEraseGrant_delivered (s : State) (sector : Nat) (rs : List IntervalRecord) (fs : Option FrozenSet)
    (rest : List StoreMail) (h : Delivers s .bfu ⟨.frozenErase sector, .granted, rs, fs⟩ rest) :
    exec .frozenSetEraseGrant s = .next { withStoreMail s rest with bfu := s.bfu.eraseGranted sector } := by
  show execFrozenSetEraseGrant s = _
  rw [execFrozenSetEraseGrant, s.takeStore_delivered _ _ _ h]
  rfl

theorem exec_frozenSetEraseOutcome_completed (s : State) (sector : Nat) (rs : List IntervalRecord)
    (fs : Option FrozenSet) (rest : List StoreMail) (h : Delivers s .bfu ⟨.frozenErase sector, .completed, rs, fs⟩ rest) :
    exec .frozenSetEraseOutcome s =
      .next (State.handFreeze { withStoreMail s rest with bfu := { s.bfu with erase := .idle } }) := by
  show execFrozenSetEraseOutcome s = _
  rw [execFrozenSetEraseOutcome, s.takeStore_delivered _ _ _ h]
  rfl

theorem exec_frozenSetEraseOutcome_refused (s : State) (sector : Nat) (rs : List IntervalRecord)
    (fs : Option FrozenSet) (rest : List StoreMail) (h : Delivers s .bfu ⟨.frozenErase sector, .refused, rs, fs⟩ rest) :
    exec .frozenSetEraseOutcome s = .next (withStoreMail s rest).endWriteStep := by
  show execFrozenSetEraseOutcome s = _
  rw [execFrozenSetEraseOutcome, s.takeStore_delivered _ _ _ h]

/-- Settles O38: the three reports on the erase-ahead, the completed one by the hand-over of the set that waits. -/
theorem eraseAheadAtHistory : Obligations.EraseAheadAtHistory := by
  intro s sector rest rs fs w
  refine ⟨exec_frozenSetEraseGrant_delivered s sector rs fs rest, fun hd => ?_,
    exec_frozenSetEraseOutcome_refused s sector rs fs rest⟩
  rw [exec_frozenSetEraseOutcome_completed s sector rs fs rest hd, State.handFreeze_eq]

end Sys2Proof.Machine
end

section
/-! PROOFS. READ_FROZEN (chapter 6): the frozen history as it is read, and the bytes of a frozen-set page (O39). -/

namespace Sys2Proof.Machine

/-! ## A read of the history (R119) -/

/-- What an answer says behind its presence byte: the counter, and whether a set is captured (R219). -/
def historyTail (b : Bfu) : List Byte := be 4 b.counter ++ be 1 (if b.captured.isSome then 1 else 0)

theorem Bfu.readAnswer_absent (b : Bfu) : b.readAnswer none = be 1 0 ++ historyTail b := by
  simp [Bfu.readAnswer, historyTail, flagByte]

theorem Bfu.readAnswer_present (b : Bfu) (f : FrozenSet) :
    b.readAnswer (some f) = be 1 1 ++ historyTail b ++ f.bytes := by
  simp [Bfu.readAnswer, historyTail, flagByte]

theorem exec_readFrozen_admitted (s : State) (p : PortId) (tag i : Byte) (h : Admitted s p 0x51 [i]) :
    exec (.readFrozen p tag [i]) s = .next (State.readHistory i.toNat (nextOrigin s p) (waiting s p 0x51 tag)) := by
  have hi : ofBe [i] = i.toNat := Nat.zero_add _
  show execReadFrozen p tag [i] s = _
  rw [execReadFrozen, State.arrive_between _ _ _ _ h.between, serveReadFrozen, readNumber, if_pos (List.length_singleton ..),
    State.serveWith_admitted _ _ _ _ _ _ _ h, hi]

/-- The visible history is the first 13 sets of the view. -/
theorem State.readHistory_beyond (s : State) (i : Nat) (o : Origin) (h : 12 < i) :
    s.readHistory i o = s.reply o .badArgument [] := if_pos h

theorem State.readHistory_absent (s : State) (i : Nat) (o : Origin) (hi : i ≤ 12)
    (h : ∀ e, s.bfu.history[i]? = some e → e.failed = true) :
    s.readHistory i o = s.reply o .ok (be 1 0 ++ historyTail s.bfu) := by
  rw [State.readHistory, if_neg (by omega), Bfu.readAnswer_absent]
  cases he : s.bfu.history[i]? with
  | none => rfl
  | some e => exact if_pos (h e he)

/-- The read of a set that has not failed is asked of DSC. -/
theorem State.readHistory_held (s : State) (i : Nat) (o : Origin) (e : HistoryEntry) (hi : i ≤ 12)
    (he : s.bfu.history[i]? = some e) (hf : e.failed = false) :
    s.readHistory i o = placed s (.frozenRead e.number o) [.readFrozen e.pos] true := by
  rw [State.readHistory, if_neg (by omega), he]
  simp only [hf, Bool.false_eq_true, if_false]
  exact State.enqueue_read _ _ _ rfl

/-! ## The read completed (R119) -/

theorem exec_frozenReadCompletion_delivered (s : State) (number : Nat) (o : Origin) (rs : List IntervalRecord)
    (fs : Option FrozenSet) (rest : List StoreMail) (h : Delivers s .bfu ⟨.frozenRead number o, .completed, rs, fs⟩ rest) :
    exec .frozenReadCompletion s = .next ((withStoreMail s rest).frozenRead number fs o) := by
  show execFrozenReadCompletion s = _
  rw [execFrozenReadCompletion, s.takeStore_delivered _ _ _ h]

theorem Bfu.holds_iff (b : Bfu) (number : Nat) :
    (b.history.any fun e => e.number == number) = true ↔ ∃ e ∈ b.history, e.number = number := by
  simp only [List.any_eq_true, beq_iff_eq]

/-- A set that has left the view is answered as absent. -/
theorem State.frozenRead_gone (s : State) (number : Nat) (fs : Option FrozenSet) (o : Origin)
    (h : ¬ ∃ e ∈ s.bfu.history, e.number = number) :
    s.frozenRead number fs o = concluded s o .ok (be 1 0 ++ historyTail s.bfu) := by
  rw [← Bfu.readAnswer_absent, ← State.reply_eq_concluded]
  exact if_neg (mt (s.bfu.holds_iff number).mp h)

theorem State.frozenRead_good (s : State) (number : Nat) (f : FrozenSet) (o : Origin)
    (h : ∃ e ∈ s.bfu.history, e.number = number) :
    s.frozenRead number (some f) o = concluded s o .ok (be 1 1 ++ historyTail s.bfu ++ f.bytes) := by
  rw [State.frozenRead, if_pos ((s.bfu.holds_iff number).mpr h), ← Bfu.readAnswer_present, ← State.reply_eq_concluded]

/-- A set that fails its check is marked in the view and answered as absent. -/
theorem State.frozenRead_failed (s : State) (number : Nat) (o : Origin)
    (h : ∃ e ∈ s.bfu.history, e.number = number) :
    s.frozenRead number none o =
      concluded { s with bfu := s.bfu.markFailed number } o .ok (be 1 0 ++ historyTail s.bfu) := by
  rw [State.frozenRead, if_pos ((s.bfu.holds_iff number).mpr h), ← Bfu.readAnswer_absent, ← State.reply_eq_concluded]
  rfl

/-! ## A frozen-set page's bytes (R152, R214) -/

theorem FreezeCause.code_eq (c : FreezeCause) : c.code = if c = .scheduled then 0 else 1 := by
  cases c <;> rfl

/-- The bit of an optional field tells its presence. -/
theorem bitAt_isSome {α : Type} (place : Nat) (x : Option α) [Decidable (x = none)] :
    bitAt place x.isSome = if x = none then 0 else 2 ^ place := by
  cases x <;> simp [bitAt]

/-- The flag bits of a frozen set: TIME_INVALID, and the presence of the billing date and of the calendar id. -/
theorem FrozenSet.bits_eq (f : FrozenSet) :
    bitAt 0 f.timeInvalid + bitAt 1 f.billingDate.isSome + bitAt 2 f.calendarId.isSome =
      (if f.timeInvalid then 1 else 0) + (if f.billingDate = none then 0 else 2)
        + (if f.calendarId = none then 0 else 4) := by
  rw [bitAt_isSome, bitAt_isSome]
  rfl

theorem Store.frozenPage_whole (st : Store) (n : Nat) (f : FrozenSet) (h : st.frozen.lookup n = some (.whole f)) :
    st.frozenPage n = some f.page := by
  rw [Store.frozenPage, h]
  rfl

theorem Store.frozenPage_erased (st : Store) (n : Nat) (h : st.frozen.lookup n = none) :
    st.frozenPage n = some (List.replicate 256 0xFF#8) := by
  rw [Store.frozenPage, h]
  rfl

/-- Settles O39: a read by what its index holds, its completion by what the view and the page hold then, the page's bytes
by their layout. -/
theorem readFrozenServesHistory : Obligations.ReadFrozenServesHistory := by
  intro s tail
  refine ⟨?_, ?_, ?_⟩
  · intro p tag i ha
    rw [exec_readFrozen_admitted s p tag i ha]
    have hbfu : (waiting s p 0x51 tag).bfu = s.bfu := waiting_bfu ..
    refine ⟨fun hi => ?_, fun hi he => ?_, fun e hi he hf => ?_, fun e hi he hf => ?_⟩
    · rw [State.readHistory_beyond _ _ _ hi, State.reply_waiting]
    · have hnone : ∀ e, (waiting s p 0x51 tag).bfu.history[i.toNat]? = some e → e.failed = true := by
        rw [hbfu, he]; exact nofun
      rw [State.readHistory_absent _ _ _ hi hnone, State.reply_waiting, hbfu]
      rfl
    · have hfailed : ∀ x, (waiting s p 0x51 tag).bfu.history[i.toNat]? = some x → x.failed = true := by
        rw [hbfu, he]
        rintro _ ⟨⟩
        exact hf
      rw [State.readHistory_absent _ _ _ hi hfailed, State.reply_waiting, hbfu]
      rfl
    · rw [State.readHistory_held _ _ _ e hi (hbfu ▸ he) hf]
  · intro number o rs fs rest hd w held
    rw [exec_frozenReadCompletion_delivered s number o rs fs rest hd]
    refine ⟨fun hh => ?_, fun f hh hf => ?_, fun hh hf => ?_⟩
    · exact congrArg _ (State.frozenRead_gone w number fs o hh)
    · rw [hf]
      exact congrArg _ (State.frozenRead_good w number f o hh)
    · rw [hf]
      exact congrArg _ (State.frozenRead_failed w number o hh)
  · intro f n regs entries date bits fields
    have hfields : f.fields = fields := by
      rw [FrozenSet.fields, FreezeCause.code_eq, FrozenSet.bits_eq]
      obtain ⟨_, _, _, _, d, _, _, _, _⟩ := f
      cases d <;> rfl
    refine ⟨?_, rfl, f.page_length, f.page_take, f.page_valid, s.store.frozenPage_whole n f, s.store.frozenPage_erased n⟩
    rw [FrozenSet.bytes, hfields]
    rfl

end Sys2Proof.Machine
end

section
/-! PROOFS. The invariants at reset (log 1): no image waits to be restored, the settlement table and the Directive List are
those of R22 and R151, and each port shows the members of a first COLD restart (R191) (O60). -/

namespace Sys2Proof.Machine

/-! ## Images a restart may restore (R21) -/

/-- The array as manufactured holds no image, and the one request of reset, IPU's erase-ahead, programs none. -/
theorem imagesHeld_reset : imagesHeld State.reset = [] := rfl

theorem gather_reset : State.reset.dsc.gather = none := rfl

/-- With no image held and none being gathered, a property of NAU need hold of NAU alone. -/
theorem atNau_of_no_images (P : Nau → Prop) (s : State) (hi : imagesHeld s = []) (hg : s.dsc.gather = none)
    (h : P s.nau) : AtNau P s := by
  refine ⟨h, fun x hx => ?_, fun g n h' => ?_⟩
  · rw [hi] at hx; cases hx
  · rw [hg] at h'; cases h'

/-! ## NAU and ECU with nothing recorded (R22, R151) -/

theorem balanced_blank : Balanced Nau.blank := ⟨rfl, rfl, by decide, by decide, by decide⟩

theorem tablesBalanced_reset : TablesBalanced State.reset :=
  atNau_of_no_images Balanced _ imagesHeld_reset gather_reset balanced_blank

theorem listSound_nil (nextSeq : Nat) : ListSound [] nextSeq :=
  ⟨Nat.zero_le _, .nil, .nil, .nil, fun _ h => nomatch h⟩

/-- The interlock is OPEN_READY, so EXPORT_PERMIT is deasserted although the supply is MAINS (R148, R151). -/
theorem exportSound_reset : ExportSound State.reset := by
  refine ⟨⟨nofun, fun ⟨closed, _⟩ => nomatch closed⟩, ⟨nofun, nofun⟩, Nat.le_refl _, listSound_nil _, fun x hx => ?_,
    fun g e hg => ?_⟩
  · rw [imagesHeld_reset] at hx
    cases hx
  · rw [gather_reset] at hg
    cases hg

/-! ## Ports and clock at service entry (R54, R191) -/

/-- Every port shows RESTARTED, and the Utility Link shows TIME_UNSET, which is its own. -/
theorem has_attention_reset (p : PortId) (m : Member) :
    (State.reset.port p).attention.has m = true ↔ m = .restarted ∨ (p = .ulk ∧ m = .timeUnset) := by
  cases p <;> cases m <;> decide

theorem reports_reset (p : PortId) : State.reset.mail.reports p = [] := by
  cases p <;> rfl

theorem portsSound_reset : PortsSound State.reset := by
  refine ⟨fun p h => absurd rfl h, rfl, nofun, fun p m h => ?_, fun p r h => ?_, fun p => ?_⟩
  · obtain rfl | ⟨rfl, rfl⟩ := (has_attention_reset p m).mp h <;> rfl
  · rw [reports_reset] at h
    cases h
  · cases p <;> rfl

theorem clockSound_reset : ClockSound State.reset := ⟨Nat.zero_le _, by decide, by decide⟩

/-- Settles O60: by the values of each unit after a first COLD restart. -/
theorem resetMeetsInvariants : Obligations.ResetMeetsInvariants :=
  ⟨tablesBalanced_reset, rfl, exportSound_reset, portsSound_reset, clockSound_reset⟩

end Sys2Proof.Machine
end

section
/-! PROOFS. Configuration writes (section 10.4): the range of each item, and the write asked of DSC (O48). -/

namespace Sys2Proof.Machine

/-! ## A write in a range (R101, R117, R134) -/

/-- A configuration write is placed at DSC, or in FAULT refused at once, whatever item it writes. -/
theorem State.enqueue_config (s : State) (w : ConfigWrite) (o : Origin) :
    s.enqueue (.config w o) [] = asked s (.config w o) [] false :=
  State.enqueue_eq_asked s (.config w o) [] rfl nofun rfl

theorem State.writeRanged_eq (s : State) (lo hi v : Nat) (w : ConfigWrite) (o : Origin) :
    s.writeRanged lo hi v w o =
      if lo ≤ v ∧ v ≤ hi then asked s (.config w o) [] false else s.reply o .badArgument [] := by
  rw [State.writeRanged, State.enqueue_config]

/-- A write whose command brings an item with a value of its length goes by the value's range alone. -/
theorem exec_ranged_admitted (s : State) (p : PortId) (tag item : Byte) (value : List Byte) (bytes lo hi : Nat)
    (w : ConfigWrite) (c : Instr)
    (hc : exec c s =
      .next (s.arrive p ⟨0x11, tag, item :: value⟩ fun t =>
        t.serve p 0x11 tag (item :: value) (value.length == bytes) fun o u => u.writeRanged lo hi (ofBe value) w o))
    (h : Admitted s p 0x11 (item :: value)) (hl : value.length = bytes) :
    exec c s =
      .next
        (if lo ≤ ofBe value ∧ ofBe value ≤ hi then asked (waiting s p 0x11 tag) (.config w (nextOrigin s p)) [] false
        else answered s p 0x11 tag .badArgument []) := by
  rw [hc, State.arrive_between _ _ _ _ h.between, beq_iff_eq.mpr hl, State.serve_admitted _ _ _ _ _ _ h,
    State.writeRanged_eq, State.reply_waiting]

/-! ## The netting mode (R14) -/

theorem exec_writeConfigNettingMode_admitted (s : State) (p : PortId) (tag : Byte) (value : List Byte)
    (h : Admitted s p 0x11 (2 :: value)) (hl : value.length = 1) :
    exec (.writeConfigNettingMode p tag value) s =
      .next ((waiting s p 0x11 tag).writeNetting (ofBe value) (nextOrigin s p)) := by
  show execWriteConfigNettingMode p tag value s = _
  rw [execWriteConfigNettingMode, State.arrive_between _ _ _ _ h.between, serveWriteConfigNettingMode,
    beq_iff_eq.mpr hl, State.serve_admitted _ _ _ _ _ _ h]

theorem State.writeNetting_beyond (s : State) (v : Nat) (o : Origin) (h : 1 < v) :
    s.writeNetting v o = s.reply o .badArgument [] := by
  obtain ⟨k, rfl⟩ := Nat.exists_eq_add_of_le' (Nat.succ_le_of_lt h)
  rfl

/-! ## The slot map (R28, R37) -/

theorem roleOfCode_eq_some_iff (n : Nat) (r : Role) : roleOfCode n = some r ↔ r.code = n := by
  constructor
  · intro h
    unfold roleOfCode at h
    split at h <;> cases h <;> rfl
  · rintro rfl
    cases r <;> rfl

theorem Role.code_le (r : Role) : r.code ≤ 4 := by
  cases r <;> decide

theorem Role.code_inj (a b : Role) : a.code = b.code ↔ a = b := by
  refine ⟨fun h => ?_, congrArg _⟩
  have ha := (roleOfCode_eq_some_iff b.code a).mpr h
  rw [(roleOfCode_eq_some_iff b.code b).mpr rfl] at ha
  exact (Option.some.inj ha).symm

/-- Bytes that are role codes, read one by one. -/
theorem map_roleOfCode_iff (bs : List Byte) (rs : List Role) :
    (bs.map fun b => roleOfCode b.toNat) = rs.map some ↔ rs.map Role.code = bs.map BitVec.toNat := by
  induction bs generalizing rs with
  | nil => simp
  | cons b t ih =>
    cases rs with
    | nil => simp
    | cons r u => simp [roleOfCode_eq_some_iff, ih]

theorem readRoles_eq_some_iff (value : List Byte) (m : SlotMap) :
    readRoles value = some m ↔ m.toList.map Role.code = value.map BitVec.toNat := by
  rw [← map_roleOfCode_iff, readRoles]
  constructor
  · intro h
    split at h
    case h_1 heq => cases h; exact heq
    case h_2 => cases h
  · intro h
    rw [h]
    rfl

/-- A role stands in as many slots as its code stands among the bytes. -/
theorem SlotMap.count_role (m : SlotMap) (value : List Byte) (r : Role)
    (h : m.toList.map Role.code = value.map BitVec.toNat) :
    (m.toList.filter fun x => x == r).length = (value.filter fun b => b.toNat == r.code).length := by
  have hr : (fun x => x == r) = (fun n => n == r.code) ∘ Role.code := by
    funext x
    rw [Bool.eq_iff_iff, beq_iff_eq, Function.comp_apply, beq_iff_eq, Role.code_inj]
  calc (m.toList.filter fun x => x == r).length
      = ((m.toList.map Role.code).filter fun n => n == r.code).length := by
        rw [List.filter_map, List.length_map, hr]
    _ = (value.filter fun b => b.toNat == r.code).length := by
        rw [h, List.filter_map, List.length_map]; rfl

theorem SlotMap.distinctRoles_iff (m : SlotMap) (value : List Byte)
    (h : m.toList.map Role.code = value.map BitVec.toNat) :
    m.distinctRoles = true ↔ ∀ k ∈ [1, 2, 3, 4], (value.filter fun b => b.toNat == k).length ≤ 1 := by
  simp only [SlotMap.distinctRoles, List.all_cons, List.all_nil, Bool.and_true, Bool.and_eq_true, decide_eq_true_eq,
    m.count_role value _ h, Role.code, List.forall_mem_cons, List.not_mem_nil, false_implies, implies_true, and_true]

theorem exec_writeConfigSlotMap_admitted (s : State) (p : PortId) (tag : Byte) (value : List Byte)
    (h : Admitted s p 0x11 (1 :: value)) (hl : value.length = 7) :
    exec (.writeConfigSlotMap p tag value) s =
      .next ((waiting s p 0x11 tag).writeSlotMap value (nextOrigin s p)) := by
  show execWriteConfigSlotMap p tag value s = _
  rw [execWriteConfigSlotMap, State.arrive_between _ _ _ _ h.between, serveWriteConfigSlotMap,
    beq_iff_eq.mpr hl, State.serve_admitted _ _ _ _ _ _ h]

theorem State.writeSlotMap_good (s : State) (value : List Byte) (o : Origin) (m : SlotMap)
    (hm : readRoles value = some m) (hd : m.distinctRoles = true) :
    s.writeSlotMap value o = asked s (.config (.slotMap m) o) [] false := by
  rw [State.writeSlotMap, hm]
  exact (if_pos hd).trans (s.enqueue_config ..)

theorem State.writeSlotMap_bad (s : State) (value : List Byte) (o : Origin)
    (h : ∀ m, readRoles value = some m → m.distinctRoles = false) :
    s.writeSlotMap value o = s.reply o .badArgument [] := by
  unfold State.writeSlotMap
  split
  case h_1 m hm => exact if_neg (by simp [h m hm])
  case h_2 => rfl

/-! ## An unknown item (R197) -/

theorem exec_writeConfigUnknownItem_admitted (s : State) (p : PortId) (tag : Byte) (payload : List Byte)
    (h : Admitted s p 0x11 payload) (hk : knownItem payload = false) :
    exec (.writeConfigUnknownItem p tag payload) s = .next (answered s p 0x11 tag .badArgument []) := by
  show execWriteConfigUnknownItem p tag payload s = _
  rw [execWriteConfigUnknownItem, if_neg (by simp [hk]), State.arrive_between _ _ _ _ h.between,
    serveWriteConfigUnknownItem, State.serve_length _ _ _ _ _ _ h]

/-- Settles O48: the map by its role codes, the mode by its byte, every other known item by its range. -/
theorem configWritesAsked : Obligations.ConfigWritesAsked := by
  intro s p tag value bad asks ranged
  have inRange (c : Instr) (item : Byte) (bytes lo hi : Nat) (w : Nat → ConfigWrite)
      (hc : exec c s =
        .next (s.arrive p ⟨0x11, tag, item :: value⟩ fun t =>
          t.serve p 0x11 tag (item :: value) (value.length == bytes) fun o u =>
            u.writeRanged lo hi (ofBe value) (w (ofBe value)) o)) : ranged c item bytes lo hi w := by
    intro ha hl
    have he := exec_ranged_admitted s p tag item value bytes lo hi _ c hc ha hl
    exact ⟨fun h => he.trans (congrArg _ (if_pos h)), fun h => he.trans (congrArg _ (if_neg (by omega)))⟩
  refine ⟨fun ha hl => ?_, fun ha hl => ?_, inRange _ _ _ _ _ _ rfl, inRange _ _ _ _ _ _ rfl,
    inRange _ _ _ _ _ _ rfl, inRange _ _ _ _ _ _ rfl, inRange _ _ _ _ _ _ rfl, inRange _ _ _ _ _ _ rfl,
    inRange _ _ _ _ _ _ rfl, inRange _ _ _ _ _ _ rfl, exec_writeConfigUnknownItem_admitted s p tag value⟩
  · intro good
    have he := exec_writeConfigSlotMap_admitted s p tag value ha hl
    refine ⟨fun m hg hm => ?_, fun hg => ?_⟩
    · obtain ⟨_, hone⟩ := hg
      exact he.trans (congrArg _ (State.writeSlotMap_good _ _ _ m ((readRoles_eq_some_iff _ _).mpr hm)
        ((m.distinctRoles_iff value hm).mpr hone)))
    · have hbad (m : SlotMap) (hr : readRoles value = some m) : m.distinctRoles = false := by
        have hm := (readRoles_eq_some_iff value m).mp hr
        refine Bool.eq_false_iff.mpr fun hd => hg ⟨fun b hb => ?_, (m.distinctRoles_iff value hm).mp hd⟩
        obtain ⟨r, _, hr⟩ := List.mem_map.mp (hm ▸ List.mem_map_of_mem (f := BitVec.toNat) hb)
        exact hr ▸ r.code_le
      exact he.trans (congrArg _ ((State.writeSlotMap_bad _ _ _ hbad).trans (State.reply_waiting ..)))
  · have he := exec_writeConfigNettingMode_admitted s p tag value ha hl
    refine ⟨?_, ?_, fun hv => ?_⟩
    · rintro rfl
      exact he.trans (congrArg _ (State.enqueue_config ..))
    · rintro rfl
      exact he.trans (congrArg _ (State.enqueue_config ..))
    · exact he.trans (congrArg _ ((State.writeNetting_beyond _ _ _ hv).trans (State.reply_waiting ..)))

end Sys2Proof.Machine
end

section
/-! PROOFS. What a port serves itself (chapter 10): its attention set, mask and line, its two latches, and what the owners
contribute to a snapshot (O46). -/

namespace Sys2Proof.Machine

/-! ## Sets as numbers (R210, R217) -/

/-- The number whose bits, from bit 0, are those of a list. -/
def bitsOf : List Bool → Nat
  | [] => 0
  | b :: t => b.toNat + 2 * bitsOf t

theorem testBit_bitsOf (l : List Bool) (k : Nat) : (bitsOf l).testBit k = l.getD k false := by
  induction l generalizing k with
  | nil => simp [bitsOf]
  | cons b t ih =>
    have hb : b.toNat ≤ 1 := Bool.toNat_le b
    cases k with
    | zero =>
      have hm : (bitsOf (b :: t)) % 2 = b.toNat := by rw [bitsOf]; omega
      rw [Nat.testBit_zero, hm]
      cases b <;> rfl
    | succ k =>
      have hd : bitsOf (b :: t) / 2 = bitsOf t := by rw [bitsOf]; omega
      rw [Nat.testBit_succ, hd, ih, List.getD_cons_succ]

theorem bitsOf_lt (l : List Bool) : bitsOf l < 2 ^ l.length := by
  induction l with
  | nil => exact Nat.one_pos
  | cons b t ih =>
    have hb : b.toNat ≤ 1 := Bool.toNat_le b
    rw [bitsOf, List.length_cons, Nat.pow_succ]
    omega

theorem bitAt_eq (place : Nat) (b : Bool) : bitAt place b = b.toNat * 2 ^ place := by
  cases b <;> simp [bitAt]

theorem mem_allMembers (m : Member) : m ∈ allMembers := by
  cases m <;> decide

/-- The bits of a set are its members, in the order of their list. -/
theorem Members.bits_eq (set : Members) : set.bits = bitsOf (allMembers.map set.has) := by
  simp only [Members.bits, bitAt_eq, allMembers, List.map_cons, List.map_nil, bitsOf, Members.has]
  omega

theorem Members.bits_lt (set : Members) : set.bits < 2048 := by
  have h := bitsOf_lt (allMembers.map set.has)
  rwa [← set.bits_eq, List.length_map, show allMembers.length = 11 from rfl] at h

theorem Members.testBit_bits (set : Members) (k : Nat) (m : Member) (h : allMembers[k]? = some m) :
    set.bits.testBit k = set.has m := by
  rw [set.bits_eq, testBit_bitsOf, List.getD_eq_getElem?_getD, List.getElem?_map, h]
  rfl

theorem Members.has_ofBits (n k : Nat) (m : Member) (h : allMembers[k]? = some m) :
    (Members.ofBits n).has m = n.testBit k := by
  have hmap : allMembers.map (Members.ofBits n).has = (List.range 11).map n.testBit := rfl
  have hk : k < 11 := (List.getElem?_eq_some_iff.mp h).1
  have hget := congrArg (fun l => l[k]?) hmap
  simpa [h, hk] using hget

theorem Members.unmasked_iff (set mask : Members) :
    set.unmasked mask = true ↔ ∃ m, set.has m = true ∧ mask.has m = false := by
  simp [Members.unmasked, mem_allMembers]

theorem Members.allBelong_iff (set : Members) (p : PortId) :
    set.allBelong p = true ↔ ∀ m, set.has m = true → belongsTo m p = true := by
  simp only [Members.allBelong, List.all_eq_true, mem_allMembers, forall_const]
  refine forall_congr' fun m => ?_
  cases set.has m <;> simp

/-! ## The unread parts of a latch (R200, R217) -/

/-- Whether part k, of parts 1 to 4, is unread. -/
def Unread.has (u : Unread) (k : Nat) : Bool :=
  (k == 1 && u.p1) || (k == 2 && u.p2) || (k == 3 && u.p3) || (k == 4 && u.p4)

theorem Unread.bits_eq (u : Unread) : u.bits = bitsOf [u.p1, u.p2, u.p3, u.p4] := by
  simp only [Unread.bits, bitAt_eq, bitsOf]
  omega

theorem Unread.bits_lt (u : Unread) : u.bits < 16 := u.bits_eq ▸ bitsOf_lt [u.p1, u.p2, u.p3, u.p4]

theorem Unread.testBit_bits (u : Unread) (k : Nat) (h : k < 4) : u.bits.testBit k = u.has (k + 1) := by
  rw [u.bits_eq, testBit_bitsOf]
  match k, h with
  | 0, _ | 1, _ | 2, _ | 3, _ => simp [Unread.has]

theorem Unread.bits_eq_zero_iff (u : Unread) : u.bits = 0 ↔ u = ⟨false, false, false, false⟩ := by
  obtain ⟨a, b, c, d⟩ := u
  revert a b c d
  decide

/-- The part offered next is unread, and no lower one is. -/
theorem Unread.has_first (u : Unread) (h : ∃ k, u.has k = true) :
    u.has u.first = true ∧ ∀ k, k < u.first → u.has k = false := by
  obtain ⟨p1, p2, p3, p4⟩ := u
  match p1, p2, p3, p4 with
  | true, _, _, _ => exact ⟨rfl, fun k (hk : k < 1) => by simp [Unread.has]; omega⟩
  | false, true, _, _ => exact ⟨rfl, fun k (hk : k < 2) => by simp [Unread.has]; omega⟩
  | false, false, true, _ => exact ⟨rfl, fun k (hk : k < 3) => by simp [Unread.has]; omega⟩
  | false, false, false, true => exact ⟨rfl, fun k (hk : k < 4) => by simp [Unread.has]; omega⟩
  | false, false, false, false =>
    obtain ⟨k, hk⟩ := h
    simp [Unread.has] at hk

/-- Reading a part takes it out of the unread ones and no other. -/
theorem Unread.has_read (u : Unread) (n k : Nat) (h1 : 1 ≤ n) (h4 : n ≤ 4) : (u.read n).has k = (u.has k && k != n) := by
  match n, h1, h4 with
  | 1, _, _ | 2, _, _ | 3, _, _ | 4, _, _ =>
    match k with
    | 0 | 1 | 2 | 3 | 4 | k + 5 => simp [Unread.read, Unread.has]

/-! ## Requests that a port answers itself (R192) -/

/-- An admitted request whose payload its layout reads reaches its owner with what was read. -/
theorem State.arrive_admitted {α : Type} (s : State) (p : PortId) (code tag : Byte) (pl : List Byte) (read : Option α)
    (a : α) (owner : α → Origin → State → State) (h : Admitted s p code pl) (hr : read = some a) :
    s.arrive p ⟨code, tag, pl⟩ (fun t => t.serveWith p code tag pl read owner) =
      owner a (nextOrigin s p) (waiting s p code tag) := by
  rw [State.arrive_between _ _ _ _ h.between, hr, State.serveWith_admitted _ _ _ _ _ _ _ h]

/-- A port admits requests in MAINS alone. -/
theorem Admitted.mains {s : State} {p : PortId} {code : Byte} {payload : List Byte} (h : Admitted s p code payload) :
    s.ssv.supply = .mains := by
  obtain ⟨hm, _⟩ := h
  exact hm

theorem waiting_port (s : State) (p : PortId) (code tag : Byte) :
    (waiting s p code tag).port p =
      { s.port p with
        inProgress := some ⟨code, tag, (s.port p).serial + 1, none⟩, serial := (s.port p).serial + 1 } :=
  State.port_setPort ..

/-- An answer given in the event of the hand-over, where the port's own state has changed to `y`. -/
theorem State.reply_waiting_setPort (s : State) (p : PortId) (code tag : Byte) (y : Port) (res : Result) (pl : List Byte) :
    ((waiting s p code tag).setPort p
        { y with inProgress := some ⟨code, tag, y.serial + 1, none⟩, serial := y.serial + 1 }).reply ⟨p, y.serial + 1⟩
        res pl =
      answered (s.setPort p y) p code tag res pl := by
  simp [State.reply, waiting, answered]

theorem State.linesOff_mains (s : State) (h : s.ssv.supply = .mains) : s.linesOff = false := by
  rw [State.linesOff, h]

theorem waiting_linesOff (s : State) (p : PortId) (code tag : Byte) (h : s.ssv.supply = .mains) :
    (waiting s p code tag).linesOff = false :=
  State.linesOff_mains _ (by rw [waiting_ssv]; exact h)

/-- READ_ATTENTION returns the set and takes the event members out of it (R203). -/
theorem exec_readAttention_admitted (s : State) (p : PortId) (tag : Byte) (h : Admitted s p 0x02 []) :
    let x := s.port p
    let kept := x.attention.levelsOnly
    exec (.readAttention p tag []) s =
      .next
        (answered (s.setPort p { x with attention := kept, line := kept.unmasked x.mask }) p 0x02 tag .ok
          x.attentionBytes) := by
  intro x kept
  have ha := State.arrive_admitted s p 0x02 tag [] (readEmpty []) () (fun _ => State.answerAttention) h rfl
  refine congrArg _ (ha.trans ?_)
  rw [← State.reply_waiting_setPort, State.answerAttention, waiting_linesOff s p _ _ h.mains, nextOrigin, waiting_port]
  rfl

theorem exec_setAttentionMask_admitted (s : State) (p : PortId) (tag : Byte) (payload : List Byte)
    (h : Admitted s p 0x03 payload) (hl : payload.length = 2) :
    exec (.setAttentionMask p tag payload) s =
      .next ((waiting s p 0x03 tag).setMask (ofBe payload) (nextOrigin s p)) :=
  congrArg _ (State.arrive_admitted s p 0x03 tag payload (readNumber 2 payload) _ State.setMask h (if_pos hl))

/-- A mask of bits 0 to 10 whose members belong to the port is taken, and the line follows it (R204). -/
theorem State.setMask_good (s : State) (p : PortId) (tag : Byte) (n : Nat) (h : s.ssv.supply = .mains) (hn : n < 2048)
    (hb : (Members.ofBits n).allBelong p = true) :
    let x := s.port p
    let m := Members.ofBits n
    (waiting s p 0x03 tag).setMask n (nextOrigin s p) =
      answered (s.setPort p { x with mask := m, line := x.attention.unmasked m }) p 0x03 tag .ok (be 2 m.bits) := by
  intro x m
  rw [← State.reply_waiting_setPort, State.setMask, waiting_linesOff s p _ _ h, nextOrigin, waiting_port]
  exact if_pos ⟨hn, hb⟩

/-- In MAINS a port takes the oldest report of a member, and the line follows its set (R202). -/
theorem exec_attentionReport_mains (s : State) (p : PortId) (m : Member) (present : Bool) (rest : List AttentionReport)
    (h : s.ssv.supply = .mains)
    (ht : takeFirst (fun r => r.member == m) (s.mail.reports p) = some (⟨m, present⟩, rest)) :
    let x := s.port p
    let set := x.attention.put m present
    exec (.attentionReport p m) s =
      .next
        (State.setPort { s with mail := s.mail.putReports p rest } p
          { x with attention := set, line := set.unmasked x.mask }) := by
  intro x set
  have hon : s.takesReports = true := by rw [State.takesReports, h]
  have hoff : (s.setMail (s.mail.putReports p rest)).linesOff = false := State.linesOff_mains _ h
  have hx : (s.setMail (s.mail.putReports p rest)).port p = x := by cases p <;> rfl
  show execAttentionReport p m s = _
  rw [execAttentionReport, if_pos hon, ht]
  simp only [hoff, hx]
  rfl

/-! ## Write enable and cover (R195, R196) -/

theorem exec_enableWrite_admitted (s : State) (p : PortId) (tag : Byte) (h : Admitted s p 0x08 []) :
    exec (.enableWrite p tag []) s =
      .next (answered (s.setPort p { s.port p with writeEnable := true }) p 0x08 tag .ok []) := by
  have ha := State.arrive_admitted s p 0x08 tag [] (readEmpty []) () (fun _ => State.enableWrite) h rfl
  refine congrArg _ (ha.trans ?_)
  rw [← State.reply_waiting_setPort, State.enableWrite, nextOrigin, waiting_port]

theorem Port.takeCover_eq (x : Port) (c : Cover) :
    x.takeCover c = { x with coverView := c, writeEnable := if c = .closed then false else x.writeEnable } := by
  cases c <;> rfl

theorem exec_portCoverReport_oldest (s : State) (c : Cover) (rest : List Cover) (h : s.mail.optCover = c :: rest) :
    exec .portCoverReport s = .next ((s.setMail { s.mail with optCover := rest }).setOpt (s.opt.takeCover c)) := by
  show execPortCoverReport s = _
  rw [execPortCoverReport, h]

/-! ## The snapshot latch (R199, R200) -/

theorem exec_latchRegisters_admitted (s : State) (p : PortId) (tag : Byte) (h : Admitted s p 0x04 []) :
    exec (.latchRegisters p tag []) s = .next ((waiting s p 0x04 tag).latchRegisters (nextOrigin s p)) :=
  congrArg _ (State.arrive_admitted s p 0x04 tag [] (readEmpty []) () (fun _ => State.latchRegisters) h rfl)

theorem State.latchRegisters_held (s : State) (o : Origin) (l : Latch) (h : (s.port o.port).latch = some l) :
    s.latchRegisters o = s.reply o .ok (be 1 1) := by
  rw [State.latchRegisters, h]

theorem State.latchRegisters_empty (s : State) (o : Origin) (h : (s.port o.port).latch = none) :
    s.latchRegisters o = s.ask ⟨[.nau, .cck, .tcu, .bfu, .ecu], .latch .blank⟩ o := by
  rw [State.latchRegisters, h]

theorem Ecu.enforced_eq (e : Ecu) :
    e.enforced = if e.handshake = .notified then max e.effective e.settled else e.effective := by
  unfold Ecu.enforced
  cases e.handshake <;> rfl

/-- A block that is not asked has nothing to answer. -/
theorem State.answerAsk_other (s : State) (p : PortId) (b : Block) (r : PortRequest) (blocks : List Block) (g : Gathered)
    (hr : (s.port p).inProgress = some r) (ha : r.asking = some ⟨blocks, g⟩) (hb : b ∉ blocks) :
    s.answerAsk p b = s := by
  simp only [State.answerAsk, hr, ha, if_neg hb]

/-- An answer with others outstanding joins what the port has gathered. -/
theorem State.answerAsk_more (s : State) (p : PortId) (b : Block) (r : PortRequest) (blocks : List Block) (g : Gathered)
    (hr : (s.port p).inProgress = some r) (ha : r.asking = some ⟨blocks, g⟩) (hb : b ∈ blocks)
    (hl : blocks.erase b ≠ []) :
    s.answerAsk p b =
      s.setPort p { s.port p with inProgress := some { r with asking := some ⟨blocks.erase b, g.add s b⟩ } } := by
  simp only [State.answerAsk, hr, ha, if_pos hb, if_neg hl]

/-- The last answer concludes the request. -/
theorem State.answerAsk_last (s : State) (p : PortId) (b : Block) (r : PortRequest) (blocks : List Block) (g : Gathered)
    (hr : (s.port p).inProgress = some r) (ha : r.asking = some ⟨blocks, g⟩) (hb : b ∈ blocks)
    (hl : blocks.erase b = []) : s.answerAsk p b = s.concludeAsk ⟨p, r.serial⟩ (g.add s b) := by
  simp only [State.answerAsk, hr, ha, if_pos hb, if_pos hl]

/-- A latch whose last owner has contributed is HELD, with the answer sent (R199, R217). -/
theorem State.concludeAsk_latch (s : State) (p : PortId) (r : PortRequest) (d : Latch)
    (hr : (s.port p).inProgress = some r) :
    s.concludeAsk ⟨p, r.serial⟩ (.latch d) =
      settledAt (s.setPort p { s.port p with latch := some d }) ⟨p, r.serial⟩ r .ok (be 1 0) :=
  State.reply_owed _ _ r _ _ (by rw [State.port_setPort]; exact hr) rfl

theorem exec_readLatched_admitted (s : State) (p : PortId) (tag : Byte) (payload : List Byte) (n : Option Nat)
    (h : Admitted s p 0x05 payload) (hn : readPartNumber payload = some n) :
    exec (.readLatched p tag payload) s = .next ((waiting s p 0x05 tag).readLatched n (nextOrigin s p)) :=
  congrArg _ (State.arrive_admitted s p 0x05 tag payload (readPartNumber payload) n State.readLatched h hn)

/-- A part number, or none, is read from a payload of at most one byte. -/
theorem readPartNumber_short (payload : List Byte) (h : payload.length ≤ 1) : ∃ n, readPartNumber payload = some n := by
  match payload, h with
  | [], _ => exact ⟨none, rfl⟩
  | [b], _ => exact ⟨some b.toNat, rfl⟩

theorem State.readLatched_empty (s : State) (n : Option Nat) (o : Origin) (h : (s.port o.port).latch = none) :
    s.readLatched n o = s.reply o .latchEmpty [] := by
  simp only [State.readLatched, h]

theorem State.readLatched_beyond (s : State) (n : Nat) (o : Origin) (l : Latch) (h : (s.port o.port).latch = some l)
    (hn : n < 1 ∨ 4 < n) : s.readLatched (some n) o = s.reply o .badArgument [] := by
  simp only [State.readLatched, h]
  exact if_neg (by omega)

/-- A part named, or the lowest unread one, is returned. -/
theorem State.readLatched_part (s : State) (n : Nat) (o : Origin) (l : Latch) (part : Option Nat)
    (h : (s.port o.port).latch = some l) (h1 : 1 ≤ n) (h4 : n ≤ 4)
    (hp : part = some n ∨ (part = none ∧ n = l.unread.first)) : s.readLatched part o = s.returnPart l n o := by
  obtain rfl | ⟨rfl, rfl⟩ := hp <;> simp only [State.readLatched, h]
  exact if_pos ⟨h1, h4⟩

theorem State.returnPart_waiting (s : State) (p : PortId) (tag : Byte) (l : Latch) (n : Nat) :
    let u := l.unread.read n
    (waiting s p 0x05 tag).returnPart l n (nextOrigin s p) =
      answered
        (s.setPort p
          { s.port p with
            latch := if u = ⟨false, false, false, false⟩ then none else some { l with unread := u } })
        p 0x05 tag .ok (be 1 n ++ be 1 u.bits ++ l.part n) := by
  intro u
  rw [← State.reply_waiting_setPort, State.returnPart, nextOrigin, waiting_port]
  simp only [Unread.bits_eq_zero_iff]
  rfl

theorem exec_releaseLatch_admitted (s : State) (p : PortId) (tag : Byte) (h : Admitted s p 0x06 []) :
    exec (.releaseLatch p tag []) s =
      .next (answered (s.setPort p { s.port p with latch := none }) p 0x06 tag .ok []) := by
  have ha := State.arrive_admitted s p 0x06 tag [] (readEmpty []) () (fun _ => State.releaseLatch) h rfl
  refine congrArg _ (ha.trans ?_)
  rw [← State.reply_waiting_setPort, State.releaseLatch, nextOrigin, waiting_port]

/-- Settles O46: the sets as bits, then each request of the port by its own lemma. -/
theorem portServesOwnRequests : Obligations.PortServesOwnRequests := by
  intro s p tag x after part
  have hparts (l : Latch) (n : Nat) (h1 : 1 ≤ n) (h4 : n ≤ 4) : l.part n = part l n := by
    match n, h1, h4 with
    | 1, _, _ => cases h : l.table.calendarId <;> simp [Latch.part, part, h, optBe, validityCode]
    | 2, _, _ | 3, _, _ | 4, _, _ =>
      simp [Latch.part, part, PerBand.toList, Demands.bytes, Demand.bytes]
  refine ⟨Members.unmasked_iff, fun set n k m h => ⟨set.bits_lt, set.testBit_bits k m h, Members.has_ofBits n k m h⟩,
    by decide, fun u n => ?_, exec_readAttention_admitted s p tag, fun payload ha hl => ?_,
    fun m rest hm present => exec_attentionReport_mains s p m present rest hm,
    exec_enableWrite_admitted s p tag, fun c rest hc => ?_, fun ha => ?_, fun r blocks d b hr hk => ?_,
    fun payload ha hl => ?_, exec_releaseLatch_admitted s p tag⟩
  · exact ⟨u.has_first, fun h1 h4 k => u.has_read n k h1 h4, u.testBit_bits, u.bits_lt⟩
  · intro m good
    have hbelong := m.allBelong_iff p
    rw [exec_setAttentionMask_admitted s p tag payload ha hl]
    refine ⟨fun ⟨hn, hb⟩ => congrArg _ (State.setMask_good s p tag _ ha.mains hn (hbelong.mpr hb)), fun hg => ?_⟩
    rw [State.setMask, if_neg fun ⟨hn, hb⟩ => hg ⟨hn, hbelong.mp hb⟩, State.reply_waiting]
  · rw [exec_portCoverReport_oldest s c rest hc, Port.takeCover_eq]
    rfl
  · have hx : ((waiting s p 0x04 tag).port (nextOrigin s p).port).latch = x.latch := by
      rw [nextOrigin, waiting_port]
    rw [exec_latchRegisters_admitted s p tag ha]
    refine ⟨fun l hl => ?_, fun hl => ⟨.blank, rfl, ?_⟩⟩
    · rw [State.latchRegisters_held _ _ l (hx.trans hl), State.reply_waiting]
    · rw [State.latchRegisters_empty _ _ (hx.trans hl), State.ask_waiting]
  · intro e l
    have hadd : (Gathered.latch d).add s b = .latch l := by
      cases b <;> simp only [Gathered.add, State.contribute, Ecu.enforced_eq] <;> rfl
    refine ⟨State.answerAsk_other s p b r blocks _ hr hk, fun hb hmore => ?_, fun hb hlast => ?_⟩
    · rw [State.answerAsk_more s p b r blocks _ hr hk hb hmore, hadd]
    · rw [State.answerAsk_last s p b r blocks _ hr hk hb hlast, hadd, State.concludeAsk_latch s p r l hr]
  · have hx : ((waiting s p 0x05 tag).port (nextOrigin s p).port).latch = x.latch := by
      rw [nextOrigin, waiting_port]
    refine ⟨fun hn => ?_, fun l b hs hb hr => ?_, fun l n hs h1 h4 hp => ?_⟩
    · obtain ⟨n, hread⟩ := readPartNumber_short payload hl
      rw [exec_readLatched_admitted s p tag payload n ha hread, State.readLatched_empty _ _ _ (hx.trans hn),
        State.reply_waiting]
    · subst hb
      rw [exec_readLatched_admitted s p tag [b] (some b.toNat) ha rfl,
        State.readLatched_beyond _ _ _ l (hx.trans hs) hr, State.reply_waiting]
    · obtain ⟨q, hread, hq⟩ : ∃ q, readPartNumber payload = some q ∧ (q = some n ∨ (q = none ∧ n = l.unread.first)) := by
        obtain rfl | ⟨rfl, hf⟩ := hp
        · refine ⟨some n, ?_, .inl rfl⟩
          rw [readPartNumber, BitVec.toNat_ofNat, Nat.mod_eq_of_lt (by omega)]
        · exact ⟨none, rfl, .inr ⟨rfl, hf⟩⟩
      rw [exec_readLatched_admitted s p tag payload q ha hread,
        State.readLatched_part _ n _ l q (hx.trans hs) h1 h4 hq, State.returnPart_waiting, hparts l n h1 h4]

end Sys2Proof.Machine
end

section
/-! PROOFS. The frames a port collects (R207): where a frame ends, the frames that are good, and what each arrival of bytes
leaves at the port. -/

namespace Sys2Proof.Machine

/-! ## The collection of link frames -/

/-- The marker and a length of at most 1,024 begin a frame. -/
theorem collect_link_header (l1 l0 : Byte) (rest : List Byte) (h : ofBe [l1, l0] ≤ 1024) :
    collect 0x7E#8 linkExtent [] (0x7E#8 :: l1 :: l0 :: rest) = collect 0x7E#8 linkExtent [0x7E#8, l1, l0] rest := by
  have h3 : collect 0x7E#8 linkExtent [] [0x7E#8, l1, l0] = ([0x7E#8, l1, l0], []) := by
    simp [collect, collectByte, linkExtent, Config.maxPayload, h]
  rw [show 0x7E#8 :: l1 :: l0 :: rest = [0x7E#8, l1, l0] ++ rest from rfl, collect_append, h3]
  rfl

/-- A length above 1,024 ends the collection (R207). -/
theorem collect_link_tooLong (l1 l0 : Byte) (h : 1024 < ofBe [l1, l0]) :
    collect 0x7E#8 linkExtent [] [0x7E#8, l1, l0] = ([], []) := by
  simp [collect, collectByte, linkExtent, Config.maxPayload, Nat.not_le.mpr h]

/-- The bytes of a frame that stop short of its end stay under collection. -/
theorem collect_link_begun (l1 l0 : Byte) (t more : List Byte) (h : ofBe [l1, l0] ≤ 1024)
    (hl : t.length + more.length < ofBe [l1, l0] + 4) :
    collect 0x7E#8 linkExtent (0x7E#8 :: l1 :: l0 :: t) more = (0x7E#8 :: l1 :: l0 :: (t ++ more), []) := by
  induction more generalizing t with
  | nil => rw [collect_nil, List.append_nil]
  | cons b u ih =>
    rw [List.length_cons] at hl
    have hb : collectByte 0x7E#8 linkExtent (0x7E#8 :: l1 :: l0 :: t) b = (0x7E#8 :: l1 :: l0 :: (t ++ [b]), []) := by
      simp [collectByte, linkExtent, Config.maxPayload, h]
      omega
    rw [collect_cons, hb, ih (t ++ [b]) (by simp; omega), List.append_assoc]
    rfl

/-- The bytes of a frame of its length are handed on whole, markers among them. -/
theorem collect_link_whole (l1 l0 : Byte) (rest : List Byte) (h : ofBe [l1, l0] ≤ 1024)
    (hl : rest.length = ofBe [l1, l0] + 4) :
    collect 0x7E#8 linkExtent [] (0x7E#8 :: l1 :: l0 :: rest) = ([], [0x7E#8 :: l1 :: l0 :: rest]) := by
  rw [collect_link_header l1 l0 rest h]
  exact collect_inside _ _ (ofBe [l1, l0] + 7) _ _ (by simp) (by rintro rfl; simp at hl) (by simp [hl]; omega)
    fun _ _ _ => if_pos h

/-! ## Good frames (R193 check 1) -/

/-- Two bytes are those of the number they spell. -/
theorem be_ofBe_two (l1 l0 : Byte) : be 2 (ofBe [l1, l0]) = [l1, l0] := by
  have h1 : (ofBe [l1, l0]) / 256 = l1.toNat := by simp [ofBe]; omega
  have h0 : BitVec.ofNat 8 (ofBe [l1, l0]) = l0 := by
    apply BitVec.eq_of_toNat_eq
    have := l0.isLt
    simp [ofBe]
    omega
  simp [be, h1, h0]

/-- Only the bytes of a good frame parse. -/
theorem bytes_of_parseLinkFrame (bytes : List Byte) (f : LinkFrame) (h : parseLinkFrame bytes = some f) :
    bytes = f.bytes := by
  unfold parseLinkFrame at h
  split at h
  case h_1 m l1 l0 code tag rest =>
    dsimp only at h
    split at h
    case isTrue hg =>
      obtain ⟨hm, _, hl, hcheck⟩ := hg
      obtain rfl := Option.some.inj h
      have hlen : (rest.take (ofBe [l1, l0])).length = ofBe [l1, l0] := by
        rw [List.length_take]
        omega
      simp only [LinkFrame.bytes, hlen, be_ofBe_two, List.cons_append, List.nil_append]
      rw [← hcheck, List.take_append_drop, hm]
    case isFalse => cases h
  case h_2 => cases h

theorem parseLinkFrame_eq_none (bytes : List Byte) (h : ∀ f : LinkFrame, bytes ≠ f.bytes) : parseLinkFrame bytes = none := by
  cases hp : parseLinkFrame bytes with
  | none => rfl
  | some f => exact absurd (bytes_of_parseLinkFrame bytes f hp) (h f)

/-- The bytes of a good frame are collected as one frame, and nothing is left. -/
theorem collect_frame_bytes (f : LinkFrame) (h : f.payload.length ≤ 1024) :
    collect 0x7E#8 linkExtent [] f.bytes = ([], [f.bytes]) := by
  have hb : be 2 f.payload.length
      = [BitVec.ofNat 8 (f.payload.length / 256), BitVec.ofNat 8 f.payload.length] := by simp [be]
  have hl := ofBe_be 2 f.payload.length (by omega)
  rw [hb] at hl
  have hf : f.bytes = 0x7E#8 :: BitVec.ofNat 8 (f.payload.length / 256) :: BitVec.ofNat 8 f.payload.length
      :: (f.code :: f.tag :: (f.payload ++ crcBytes (be 2 f.payload.length ++ [f.code, f.tag] ++ f.payload))) := by
    simp [LinkFrame.bytes, hb]
  rw [hf]
  exact collect_link_whole _ _ _ (by rw [hl]; exact h) (by rw [hl]; simp)

/-- The frames among bytes after which nothing is under collection come before those of the bytes behind. -/
theorem linkFrames_append (a b : List Byte) (out : List (List Byte))
    (h : collect 0x7E#8 linkExtent [] a = ([], out)) :
    linkFrames (a ++ b) = out.filterMap parseLinkFrame ++ linkFrames b := by
  rw [linkFrames, collect_append, h, List.filterMap_append, linkFrames]

/-! ## Bytes that arrive at a port -/

theorem State.portsListen_eq_true (s : State) (h : s.ssv.supply = .start ∨ s.ssv.supply = .mains) :
    s.portsListen = true := by
  rcases h with h | h <;> rw [State.portsListen, h]

theorem State.portsListen_eq_false (s : State) (h : s.ssv.supply = .holdup ∨ s.ssv.supply = .backup) :
    s.portsListen = false := by
  rcases h with h | h <;> rw [State.portsListen, h]

/-- Bytes that reach a port between frames and complete no good one leave what is under collection, and nothing else. -/
theorem exec_linkFrameDiscarded_quiet (s : State) (p : PortId) (bytes buf : List Byte) (frames : List (List Byte))
    (hl : s.portsListen = true) (hc : (s.port p).collecting = [])
    (h : collect 0x7E#8 linkExtent [] bytes = (buf, frames)) (hf : frames.filterMap parseLinkFrame = []) :
    exec (.linkFrameDiscarded p bytes) s = .next (s.setPort p { s.port p with collecting := buf }) := by
  have hq := State.receiveBytes_quiet s p bytes hl (by rw [hc, h]; exact hf)
  rw [hc, h] at hq
  exact congrArg _ hq

theorem State.setPort_collecting_nil (s : State) (p : PortId) (hc : (s.port p).collecting = []) :
    s.setPort p { s.port p with collecting := [] } = s := by
  rw [← hc]
  exact State.setPort_port s p

end Sys2Proof.Machine
end

section
/-! PROOFS. The checks of a port (section 10.2): what each layout reads, the rights of each master, the session, the
write-enable latch and the protection level, and the order in which a known request meets them (O45). -/

namespace Sys2Proof.Machine

/-! ## The layouts read what their length allows (R207 to R209) -/

theorem readEmpty_isSome (pl : List Byte) : (readEmpty pl).isSome = true ↔ pl = [] := by
  simp [readEmpty]

theorem readNumber_isSome (k : Nat) (pl : List Byte) : (readNumber k pl).isSome = true ↔ pl.length = k := by
  simp [readNumber]

theorem readPartNumber_isSome (pl : List Byte) : (readPartNumber pl).isSome = true ↔ pl.length ≤ 1 := by
  match pl with
  | [] | [_] | _ :: _ :: _ => simp [readPartNumber]

theorem readRolePart_isSome (pl : List Byte) : (readRolePart pl).isSome = true ↔ pl.length = 2 := by
  match pl with
  | [] | [_] | [_, _] | _ :: _ :: _ :: _ => simp [readRolePart]

theorem readBegin_isSome (pl : List Byte) : (readBegin pl).isSome = true ↔ pl.length = 7 := by
  simp [readBegin]

theorem readAt_isSome (pl : List Byte) : (readAt pl).isSome = true ↔ pl.length = 5 := by
  simp [readAt]

theorem readPost_isSome (pl : List Byte) : (readPost pl).isSome = true ↔ pl.length = 16 := by
  simp [readPost]

/-- A reader that takes entries of k bytes each from the front, and none from bytes that end inside an entry. -/
structure EntryReader {α : Type} (k : Nat) (entry : List Byte → α) (read : List Byte → Option (List α)) : Prop where
  pos : 0 < k
  nil : read [] = some []
  append : ∀ c t, c.length = k → read (c ++ t) = (read t).map (entry c :: ·)
  short : ∀ pl, 0 < pl.length → pl.length < k → read pl = none

/-- Entries are read exactly where the bytes hold a whole number of them. -/
theorem EntryReader.read_iff {α : Type} {k : Nat} {entry : List Byte → α} {read : List Byte → Option (List α)}
    (hr : EntryReader k entry read) (n : Nat) (pl : List Byte) :
    (∃ l, read pl = some l ∧ l.length = n) ↔ pl.length = k * n := by
  have hk := hr.pos
  by_cases h0 : pl = []
  · subst h0
    constructor
    · rintro ⟨l, hl, rfl⟩
      obtain rfl := Option.some.inj (hr.nil.symm.trans hl)
      rfl
    · intro h
      exact ⟨[], hr.nil, ((Nat.mul_eq_zero.mp h.symm).resolve_left (Nat.ne_of_gt hk)).symm⟩
  have hpos : 0 < pl.length := List.length_pos_iff.mpr h0
  by_cases hs : pl.length < k
  · rw [hr.short pl hpos hs]
    have hne : pl.length ≠ k * n := by
      cases n with
      | zero => omega
      | succ n => rw [Nat.mul_succ]; omega
    simp [hne]
  · have hsplit := hr.append (pl.take k) (pl.drop k) (by rw [List.length_take]; omega)
    rw [List.take_append_drop] at hsplit
    cases n with
    | zero => simp [hsplit, h0]
    | succ n =>
      have ih := EntryReader.read_iff hr n (pl.drop k)
      rw [List.length_drop] at ih
      rw [hsplit, Nat.mul_succ, show pl.length = k * n + k ↔ pl.length - k = k * n by omega, ← ih]
      constructor
      · rintro ⟨l, hl, hn⟩
        obtain ⟨a, ha, rfl⟩ := Option.map_eq_some_iff.mp hl
        exact ⟨a, ha, Nat.succ.inj hn⟩
      · rintro ⟨a, ha, rfl⟩
        exact ⟨entry (pl.take k) :: a, Option.map_eq_some_iff.mpr ⟨a, ha, rfl⟩, rfl⟩

theorem entryReader_readPoints : EntryReader 3 (fun c => ⟨ofBe (c.take 2), (c.getD 2 0).toNat⟩) readPoints where
  pos := by decide
  nil := rfl
  append := fun
    | [_, _, _], _, _ => rfl
  short := fun
    | [_], _, _ | [_, _], _, _ => rfl

theorem entryReader_readPairs : EntryReader 2 (fun c => ((c.getD 0 0).toNat, (c.getD 1 0).toNat)) readPairs where
  pos := by decide
  nil := rfl
  append := fun
    | [_, _], _, _ => rfl
  short := fun
    | [_], _, _ => rfl

/-- The special day of 5 bytes (R208). -/
def specialEntry (c : List Byte) : SpecialDay :=
  let y := ofBe ((c.drop 2).take 2)
  ⟨(c.getD 0 0).toNat, (c.getD 1 0).toNat, if y = 0 then none else some y, (c.getD 4 0).toNat⟩

theorem entryReader_readSpecials : EntryReader 5 specialEntry readSpecials where
  pos := by decide
  nil := rfl
  append := fun
    | [_, _, _, _, _], _, _ => rfl
  short := fun
    | [_], _, _ | [_, _], _, _ | [_, _, _], _, _ | [_, _, _, _], _, _ => rfl

/-- Entries under a count are read where the bytes hold as many. -/
theorem EntryReader.counted_isSome {α β : Type} {k : Nat} {entry : List Byte → α} {read : List Byte → Option (List α)}
    (hr : EntryReader k entry read) (n : Nat) (rest : List Byte) (f : List α → β) :
    ((read rest).bind fun l => if l.length = n then some (f l) else none).isSome = true ↔ rest.length = k * n := by
  rw [← hr.read_iff]
  cases read rest <;> simp

theorem readDayProfile_cons (i n : Byte) (rest : List Byte) :
    readDayProfile (i :: n :: rest) =
      (readPoints rest).bind fun ps => if ps.length = n.toNat then some (i.toNat, ps) else none := by
  rw [readDayProfile]
  cases readPoints rest <;> rfl

theorem readWeek_cons (n : Byte) (rest : List Byte) :
    readWeek (n :: rest) = (readPairs rest).bind fun es => if es.length = n.toNat then some es else none := by
  rw [readWeek]
  cases readPairs rest <;> rfl

theorem readSpecialList_cons (n : Byte) (rest : List Byte) :
    readSpecialList (n :: rest) = (readSpecials rest).bind fun es => if es.length = n.toNat then some es else none := by
  rw [readSpecialList]
  cases readSpecials rest <;> rfl

theorem readDayProfile_isSome (pl : List Byte) :
    (readDayProfile pl).isSome = true ↔ ∃ i n rest, pl = i :: n :: rest ∧ rest.length = 3 * n.toNat := by
  match pl with
  | [] | [_] => simp [readDayProfile]
  | i :: n :: rest =>
    rw [readDayProfile_cons, entryReader_readPoints.counted_isSome n.toNat rest fun ps => (i.toNat, ps)]
    exact ⟨fun h => ⟨i, n, rest, rfl, h⟩, fun ⟨_, _, _, he, h⟩ => by cases he; exact h⟩

theorem readWeek_isSome (pl : List Byte) :
    (readWeek pl).isSome = true ↔ ∃ n rest, pl = n :: rest ∧ rest.length = 2 * n.toNat := by
  match pl with
  | [] => simp [readWeek]
  | n :: rest =>
    rw [readWeek_cons, entryReader_readPairs.counted_isSome n.toNat rest fun es => es]
    exact ⟨fun h => ⟨n, rest, rfl, h⟩, fun ⟨_, _, he, h⟩ => by cases he; exact h⟩

theorem readSpecialList_isSome (pl : List Byte) :
    (readSpecialList pl).isSome = true ↔ ∃ n rest, pl = n :: rest ∧ rest.length = 5 * n.toNat := by
  match pl with
  | [] => simp [readSpecialList]
  | n :: rest =>
    rw [readSpecialList_cons, entryReader_readSpecials.counted_isSome n.toNat rest fun es => es]
    exact ⟨fun h => ⟨n, rest, rfl, h⟩, fun ⟨_, _, he, h⟩ => by cases he; exact h⟩

/-! ## A known request and its layout (R208, R209) -/

/-- The command brings the frame `f` to its port, which hands it on exactly where the layout allows its length. -/
def ServedAs (c : Instr) (f : RequestFrame) : Prop :=
  ∃ (allowed : Bool) (owner : Origin → State → State), (allowed = true ↔ LengthAllowed f.code f.payload)
    ∧ ∀ s, exec c s =
      .next
        (s.arrive f.port ⟨f.code, f.tag, f.payload⟩ fun t => t.serve f.port f.code f.tag f.payload allowed owner)

theorem State.serveWith_eq {α : Type} (s : State) (p : PortId) (code tag : Byte) (pl : List Byte) (read : Option α)
    (owner : α → Origin → State → State) :
    s.serveWith p code tag pl read owner =
      s.serve p code tag pl read.isSome (read.elim (fun _ t => t) owner) := by
  cases read <;> rfl

theorem servedAs_of_reader {α : Type} {c : Instr} {p : PortId} {code tag : Byte} {pl : List Byte} (read : Option α)
    (owner : α → Origin → State → State) (hr : read.isSome = true ↔ LengthAllowed code pl)
    (hc : ∀ s, exec c s = .next (s.arrive p ⟨code, tag, pl⟩ fun t => t.serveWith p code tag pl read owner)) :
    ServedAs c ⟨p, code, tag, pl⟩ :=
  ⟨read.isSome, read.elim (fun _ t => t) owner, hr, fun s => by simp only [hc s, State.serveWith_eq]⟩

/-- A request without a payload. -/
theorem servedAs_of_empty {c : Instr} {p : PortId} {code tag : Byte} {pl : List Byte} (owner : Unit → Origin → State → State)
    (hr : (pl = []) = LengthAllowed code pl)
    (hc : ∀ s, exec c s = .next (s.arrive p ⟨code, tag, pl⟩ fun t => t.serveWith p code tag pl (readEmpty pl) owner)) :
    ServedAs c ⟨p, code, tag, pl⟩ :=
  servedAs_of_reader (readEmpty pl) owner (hr ▸ readEmpty_isSome pl) hc

/-- A known item whose value has the item's length. -/
theorem servedAs_of_item {c : Instr} {p : PortId} {tag item : Byte} {value : List Byte} (bytes : Nat)
    (owner : Origin → State → State) (hi : itemLength item.toNat = some bytes)
    (hw : fitsItem item.toNat value = true)
    (hc : ∀ s, exec c s =
      .next (s.arrive p ⟨0x11, tag, item :: value⟩ fun t =>
        t.serve p 0x11 tag (item :: value) (value.length == bytes) owner)) :
    ServedAs c ⟨p, 0x11, tag, item :: value⟩ := by
  have hv : (value.length == bytes) = true := by
    rw [fitsItem, hi] at hw
    exact beq_iff_eq.mpr (Option.some.inj (beq_iff_eq.mp hw)).symm
  exact ⟨value.length == bytes, owner, ⟨fun _ => hw, fun _ => hv⟩, hc⟩

theorem servedAs_of_frame (c : Instr) (f : RequestFrame) (hw : c.wellFormed = true) (hf : frameOf c = some f) :
    ServedAs c f := by
  cases c with
  | readStatus p tag pl | readAttention p tag pl | latchRegisters p tag pl | releaseLatch p tag pl | readLive p tag pl
  | enableWrite p tag pl | readConfig p tag pl | readTime p tag pl | commitCalendar p tag pl | abortCalendar p tag pl
  | freeze p tag pl | recloseRequest p tag pl | readExportStatus p tag pl | readDirectives p tag pl
  | clearRegisters p tag pl | closeCommissioning p tag pl | readIdentity p tag pl | clearTamper p tag pl
  | restart p tag pl =>
    cases hf
    exact servedAs_of_empty _ rfl fun _ => rfl
  | setAttentionMask p tag pl | setTime p tag pl | adjustTime p tag pl | readProfile p tag pl | ackProfile p tag pl
  | readFrozen p tag pl | cancelDirective p tag pl | ackSetpoint p tag pl =>
    cases hf
    exact servedAs_of_reader _ _ (readNumber_isSome _ pl) fun _ => rfl
  | readLatched p tag pl =>
    cases hf
    exact servedAs_of_reader _ _ (readPartNumber_isSome pl) fun _ => rfl
  | readCalendar p tag pl | setProtection p tag pl =>
    cases hf
    exact servedAs_of_reader _ _ (readRolePart_isSome pl) fun _ => rfl
  | beginCalendar p tag pl =>
    cases hf
    exact servedAs_of_reader _ _ (readBegin_isSome pl) fun _ => rfl
  | loadDayProfile p tag pl =>
    cases hf
    exact servedAs_of_reader _ _ (readDayProfile_isSome pl) fun _ => rfl
  | loadWeek p tag pl =>
    cases hf
    exact servedAs_of_reader _ _ (readWeek_isSome pl) fun _ => rfl
  | loadSpecialDay p tag pl =>
    cases hf
    exact servedAs_of_reader _ _ (readSpecialList_isSome pl) fun _ => rfl
  | readProfileAt p tag pl =>
    cases hf
    exact servedAs_of_reader _ _ (readAt_isSome pl) fun _ => rfl
  | postDirective p tag pl =>
    cases hf
    exact servedAs_of_reader _ _ (readPost_isSome pl) fun _ => rfl
  | utilityHoldOn p tag pl | utilityHoldOff p tag pl =>
    cases hf
    have hne := (Bool.and_eq_true_iff.mp hw).2
    exact servedAs_of_reader _ _ (readNumber_isSome _ pl) fun _ => if_neg (bne_iff_ne.mp hne)
  | writeConfigSlotMap p tag v | writeConfigNettingMode p tag v | writeConfigIntervalLength p tag v
  | writeConfigBillingDay p tag v | writeConfigStaticConnectionLimit p tag v | writeConfigExportTolerance p tag v
  | writeConfigGrace p tag v | writeConfigAcknowledgementTime p tag v | writeConfigMinimumOpenTime p tag v
  | writeConfigUtilityThreshold p tag v | writeConfigSiteThreshold p tag v =>
    cases hf
    exact servedAs_of_item _ _ rfl hw fun _ => rfl
  | writeConfigUnknownItem p tag pl =>
    cases hf
    have hk : knownItem pl = false := (Bool.not_eq_true' _).mp (Bool.and_eq_true_iff.mp hw).2
    exact ⟨false, fun _ t => t, ⟨nofun, fun h => absurd (hk.symm.trans h) nofun⟩, fun s => if_neg (by simp [hk])⟩
  | _ => cases hf

end Sys2Proof.Machine
end

section
/-! PROOFS. The checks of a port (section 10.2) in their order: the rights of each master, the session, the write-enable latch
and the protection level; and a request's command as its frame's bytes (O45). -/

namespace Sys2Proof.Machine

/-! ## What each check asks (R193 to R196) -/

theorem mayIssue_ulk (code : Byte) (pl : List Byte) (coverOpen : Bool) :
    mayIssue .ulk code pl coverOpen = true ↔ code ∉ ([0x63, 0x64] : List Byte) := by
  simp [mayIssue, ← BitVec.toNat_inj]

theorem mayIssue_slk (code : Byte) (pl : List Byte) (coverOpen : Bool) :
    mayIssue .slk code pl coverOpen = true ↔
      code ∈ ([0x01, 0x02, 0x03, 0x04, 0x05, 0x06, 0x07, 0x20, 0x40, 0x41, 0x63, 0x64, 0x65, 0x66, 0x73] : List Byte)
        ∨ (code = 0x30 ∧ pl.head? ≠ some 1) := by
  by_cases h : pl.head? = some 1#8 <;> simp [mayIssue, ← BitVec.toNat_inj, h] <;> omega

theorem mayIssue_opt (code : Byte) (pl : List Byte) (coverOpen : Bool) :
    mayIssue .opt code pl coverOpen = true ↔
      code ∈ ([0x01, 0x02, 0x03, 0x04, 0x05, 0x06, 0x07, 0x10, 0x20, 0x30, 0x42, 0x51, 0x65, 0x66, 0x73] : List Byte)
        ∨ (coverOpen = true ∧ code ∈ ([0x08, 0x11, 0x71] : List Byte)) := by
  cases coverOpen <;> simp [mayIssue, ← BitVec.toNat_inj] <;> omega

theorem sessionCode_iff (code : Byte) : sessionCode code = true ↔ 0x32 ≤ code.toNat ∧ code.toNat ≤ 0x36 := by
  simp [sessionCode]

theorem State.sessionOpen_iff (s : State) : s.sessionOpen = true ↔ ∃ k, s.tcu.slot = .loading k := by
  unfold State.sessionOpen
  cases s.tcu.slot <;> simp

/-- During a session the Utility Link takes the session requests, READ_STATUS and READ_ATTENTION alone (R65). -/
theorem sessionRefusal_barred (s : State) (code : Byte) (hs : s.sessionOpen = true) (hc : sessionCode code = false)
    (h1 : code ≠ 0x01) (h2 : code ≠ 0x02) : sessionRefusal s .ulk code = some .sessionOpen := by
  simp only [sessionRefusal, hs, hc, beq_eq_false_iff_ne.mpr h1, beq_eq_false_iff_ne.mpr h2]
  rfl

/-- Without a session the Utility Link takes no session request (R65). -/
theorem sessionRefusal_noSession (s : State) (code : Byte) (hs : s.sessionOpen = false) (hc : sessionCode code = true) :
    sessionRefusal s .ulk code = some .noSession := by
  simp only [sessionRefusal, hs, hc]
  rfl

theorem sessionRefusal_none (s : State) (p : PortId) (code : Byte)
    (hb : ¬ (p = .ulk ∧ s.sessionOpen = true ∧ ¬ sessionCode code = true ∧ code ≠ 0x01 ∧ code ≠ 0x02))
    (hn : ¬ (p = .ulk ∧ ¬ s.sessionOpen = true ∧ sessionCode code = true)) : sessionRefusal s p code = none := by
  cases p with
  | slk | opt => rfl
  | ulk =>
    simp only [sessionRefusal]
    split
    case isTrue hs =>
      refine if_pos (Decidable.byContradiction fun hc => ?_)
      simp only [Bool.or_eq_true, beq_iff_eq, not_or] at hc
      obtain ⟨⟨hc, h1⟩, h2⟩ := hc
      exact hb ⟨rfl, hs, hc, h1, h2⟩
    case isFalse hs => exact if_neg fun hc => hn ⟨rfl, hs, hc⟩

theorem protectedCode_iff (code : Byte) :
    protectedCode code = true ↔ code ∈ ([0x11, 0x71, 0x31, 0x21, 0x70, 0x72, 0x75] : List Byte) := by
  simp [protectedCode, or_assoc]

theorem protectionRefuses_iff (level : Nat) (code : Byte) (pl : List Byte) :
    protectionRefuses level code pl = true ↔
      (code = 0x11 ∧ (2 ≤ level ∨ (level = 1 ∧ (pl.head? = some 1 ∨ pl.head? = some 2))))
        ∨ (code = 0x31 ∧ 3 ≤ level) := by
  unfold protectionRefuses
  by_cases h : code = 0x11#8
  · subst h
    simp
  · simp [h]

/-- What the level bars is a protected request, which uses up the write-enable latch (R196). -/
theorem protectedCode_of_refused (level : Nat) (code : Byte) (pl : List Byte) (h : protectionRefuses level code pl = true) :
    protectedCode code = true := by
  rw [protectionRefuses_iff] at h
  obtain ⟨rfl, _⟩ | ⟨rfl, _⟩ := h <;> rfl

/-! ## Checks 4 to 8 in their order (R193) -/

section
variable (s : State) (p : PortId) (code : Byte) (pl : List Byte)

theorem portRefusal_notPermitted (h : ¬ mayIssue p code pl ((s.port p).coverView == .opened) = true) :
    portRefusal s p code pl = some .notPermitted := if_neg h

theorem portRefusal_notReady (h : mayIssue p code pl ((s.port p).coverView == .opened) = true)
    (hs : s.ssv.supply = .start) : portRefusal s p code pl = some .notReady := by
  rw [portRefusal, if_pos h, hs]
  rfl

/-- In MAINS a request its master may issue goes by check 6, then 7, then 8. -/
theorem portRefusal_mains (h : mayIssue p code pl ((s.port p).coverView == .opened) = true)
    (hm : s.ssv.supply = .mains) :
    portRefusal s p code pl =
      (sessionRefusal s p code).or
        (if protectedCode code && !(s.port p).writeEnable then some .writeNotEnabled
        else if protectionRefuses s.dsc.level code pl then some .protectedByLevel
        else none) := by
  rw [portRefusal, if_pos h, hm]
  cases sessionRefusal s p code <;> rfl

theorem portRefusal_session (res : Result) (h : mayIssue p code pl ((s.port p).coverView == .opened) = true)
    (hm : s.ssv.supply = .mains) (hr : sessionRefusal s p code = some res) : portRefusal s p code pl = some res := by
  rw [portRefusal_mains s p code pl h hm, hr, Option.some_or]

theorem portRefusal_writeNotEnabled (h : mayIssue p code pl ((s.port p).coverView == .opened) = true)
    (hm : s.ssv.supply = .mains) (hr : sessionRefusal s p code = none) (hp : protectedCode code = true)
    (he : (s.port p).writeEnable = false) : portRefusal s p code pl = some .writeNotEnabled := by
  rw [portRefusal_mains s p code pl h hm, hr, Option.none_or, hp, he]
  rfl

/-- A request that passes check 7 goes by the protection level (R167). -/
theorem portRefusal_level (h : mayIssue p code pl ((s.port p).coverView == .opened) = true)
    (hm : s.ssv.supply = .mains) (hr : sessionRefusal s p code = none)
    (he : protectedCode code = true → (s.port p).writeEnable = true) :
    portRefusal s p code pl =
      if protectionRefuses s.dsc.level code pl then some .protectedByLevel else none := by
  rw [portRefusal_mains s p code pl h hm, hr, Option.none_or]
  refine if_neg fun hg => ?_
  obtain ⟨hp, hw⟩ := Bool.and_eq_true_iff.mp hg
  rw [he hp] at hw
  cases hw

end

theorem State.refuseAtPort_eq (s : State) (p : PortId) (code tag : Byte) (res : Result) (h : res ≠ .protectedByLevel) :
    s.refuseAtPort p code tag res = refusedAt s p code tag res := by
  simp only [State.refuseAtPort, if_neg h]
  rfl

theorem State.refuseAtPort_protected (s : State) (p : PortId) (code tag : Byte) (h : protectedCode code = true) :
    s.refuseAtPort p code tag .protectedByLevel =
      s.setPort p { s.port p with sent := some ⟨code, tag, .protectedByLevel, []⟩, writeEnable := false } := by
  simp only [State.refuseAtPort, if_true, h, Bool.not_true, Bool.and_false]

/-! ## A known request at its port -/

theorem payload_le_of_fitsItem (code : Nat) (item : Byte) (value : List Byte) (h : fitsItem code value = true) :
    (item :: value).length ≤ 1024 := by
  have hb : ∀ n, itemLength code = some n → n ≤ 7 := by
    intro n hn
    unfold itemLength at hn
    split at hn <;> cases hn <;> decide
  have := hb _ (beq_iff_eq.mp h)
  rw [List.length_cons]
  omega

/-- The frame of a well-formed command fits the link (R207). -/
theorem payload_le_of_frame (c : Instr) (f : RequestFrame) (hw : c.wellFormed = true) (hf : frameOf c = some f) :
    f.payload.length ≤ 1024 := by
  cases c with
  | writeConfigSlotMap | writeConfigNettingMode | writeConfigIntervalLength | writeConfigBillingDay
  | writeConfigStaticConnectionLimit | writeConfigExportTolerance | writeConfigGrace | writeConfigAcknowledgementTime
  | writeConfigMinimumOpenTime | writeConfigUtilityThreshold | writeConfigSiteThreshold =>
    cases hf
    exact payload_le_of_fitsItem _ _ _ hw
  | utilityHoldOn | utilityHoldOff | writeConfigUnknownItem =>
    cases hf
    exact of_decide_eq_true (Bool.and_eq_true_iff.mp hw).1
  | _ => cases hf <;> exact of_decide_eq_true hw

/-- A known request that arrives between frames: BUSY while the port serves another. -/
theorem exec_busy (c : Instr) (f : RequestFrame) (s : State) (hw : c.wellFormed = true) (hf : frameOf c = some f)
    (hs : s.ssv.supply = .start ∨ s.ssv.supply = .mains) (hc : (s.port f.port).collecting = [])
    (hi : (s.port f.port).inProgress ≠ none) : exec c s = .next (refusedAt s f.port f.code f.tag .busy) := by
  obtain ⟨b, owner, _, he⟩ := servedAs_of_frame c f hw hf
  rw [he, State.arrive_between _ _ _ _ hc, State.serve_busy _ _ _ _ _ _ _ hs (payload_le_of_frame c f hw hf) hi]

/-- The first of checks 4 to 8 that fails refuses it. -/
theorem exec_refused (c : Instr) (f : RequestFrame) (s : State) (res : Result) (hw : c.wellFormed = true)
    (hf : frameOf c = some f) (hs : s.ssv.supply = .start ∨ s.ssv.supply = .mains)
    (hc : (s.port f.port).collecting = []) (hi : (s.port f.port).inProgress = none)
    (hr : portRefusal s f.port f.code f.payload = some res) :
    exec c s = .next (s.refuseAtPort f.port f.code f.tag res) := by
  obtain ⟨b, owner, _, he⟩ := servedAs_of_frame c f hw hf
  rw [he, State.arrive_between _ _ _ _ hc, State.serve_refused _ _ _ _ _ _ _ _ hs (payload_le_of_frame c f hw hf) hi hr]

theorem exec_refusedAt (c : Instr) (f : RequestFrame) (s : State) (res : Result) (hne : res ≠ .protectedByLevel)
    (hw : c.wellFormed = true) (hf : frameOf c = some f) (hs : s.ssv.supply = .start ∨ s.ssv.supply = .mains)
    (hc : (s.port f.port).collecting = []) (hi : (s.port f.port).inProgress = none)
    (hr : portRefusal s f.port f.code f.payload = some res) :
    exec c s = .next (refusedAt s f.port f.code f.tag res) := by
  rw [exec_refused c f s res hw hf hs hc hi hr, State.refuseAtPort_eq _ _ _ _ _ hne]

/-- With every check passed, a length the layout does not allow is answered BAD_ARGUMENT (R207). -/
theorem exec_badLength (c : Instr) (f : RequestFrame) (s : State) (hw : c.wellFormed = true) (hf : frameOf c = some f)
    (ha : Admitted s f.port f.code f.payload) (hl : ¬ LengthAllowed f.code f.payload) :
    exec c s = .next (answered s f.port f.code f.tag .badArgument []) := by
  obtain ⟨b, owner, hb, he⟩ := servedAs_of_frame c f hw hf
  rw [he, State.arrive_between _ _ _ _ ha.between, Bool.eq_false_iff.mpr (mt hb.mp hl), State.serve_length _ _ _ _ _ _ ha]

/-- A known request is its frame's bytes, whatever the port has under collection and whether it listens or not. -/
theorem exec_eq_receiveBytes (c : Instr) (f : RequestFrame) (s : State) (hw : c.wellFormed = true)
    (hf : frameOf c = some f) :
    exec c s = .next (s.receiveBytes f.port (LinkFrame.bytes ⟨f.code, f.tag, f.payload⟩)) := by
  by_cases hc : (s.port f.port).collecting = []
  · cases hl : s.portsListen with
    | true =>
      rw [exec_eq_serveFrame c f s hw hf hc,
        State.receiveBytes_frame s f.port ⟨f.code, f.tag, f.payload⟩ hl hc (payload_le_of_frame c f hw hf)]
    | false =>
      obtain ⟨b, owner, _, he⟩ := servedAs_of_frame c f hw hf
      rw [he, State.arrive_between _ _ _ _ hc, State.receiveBytes_deaf _ _ _ hl, State.serve, hl]
      rfl
  · obtain ⟨b, owner, _, he⟩ := servedAs_of_frame c f hw hf
    rw [he, State.arrive_inside _ _ _ _ hc]

/-! ## A request with an unknown code (R193 check 3) -/

theorem exec_unknownRequestCode (s : State) (p : PortId) (code tag : Byte) (pl : List Byte)
    (hk : knownCode code = false) :
    exec (.unknownRequestCode p code tag pl) s =
      .next (s.arrive p ⟨code, tag, pl⟩ fun t => t.refuseUnknown p code tag pl) :=
  if_neg (by simp [hk])

theorem State.refuseUnknown_deaf (s : State) (p : PortId) (code tag : Byte) (pl : List Byte) (h : s.portsListen = false) :
    s.refuseUnknown p code tag pl = s := by
  rw [State.refuseUnknown, h]
  rfl

theorem exec_unknownRequestCode_refused (s : State) (p : PortId) (code tag : Byte) (pl : List Byte)
    (hk : knownCode code = false) (hn : pl.length ≤ 1024) (hl : s.portsListen = true)
    (hc : (s.port p).collecting = []) :
    exec (.unknownRequestCode p code tag pl) s =
      .next (refusedAt s p code tag (if (s.port p).inProgress = none then .badRequest else .busy)) := by
  have hlen : ¬ Config.maxPayload < pl.length := Nat.not_lt.mpr hn
  rw [exec_unknownRequestCode s p code tag pl hk, State.arrive_between _ _ _ _ hc, State.refuseUnknown, hl]
  cases hi : (s.port p).inProgress <;> simp [hlen, State.respond, refusedAt]

/-- A request with an unknown code is its frame's bytes as well. -/
theorem exec_unknownRequestCode_eq_receiveBytes (s : State) (p : PortId) (code tag : Byte) (pl : List Byte)
    (hk : knownCode code = false) (hn : pl.length ≤ 1024) :
    exec (.unknownRequestCode p code tag pl) s = .next (s.receiveBytes p (LinkFrame.bytes ⟨code, tag, pl⟩)) := by
  rw [exec_unknownRequestCode s p code tag pl hk]
  by_cases hc : (s.port p).collecting = []
  · cases hl : s.portsListen with
    | true =>
      rw [State.arrive_between _ _ _ _ hc, State.receiveBytes_frame s p ⟨code, tag, pl⟩ hl hc hn,
        State.serveFrame_unknown s p code tag pl hk]
    | false =>
      rw [State.arrive_between _ _ _ _ hc, State.receiveBytes_deaf _ _ _ hl, State.refuseUnknown_deaf _ _ _ _ _ hl]
  · rw [State.arrive_inside _ _ _ _ hc]

/-- Settles O45: the checks by the first that fails, the bytes by what they leave under collection. -/
theorem portChecksInOrder : Obligations.PortChecksInOrder := by
  refine ⟨fun c f s hw hf => ?_, fun p code tag pl s hk hn => ⟨fun hs => ?_, fun hs hc => ?_⟩,
    fun p s t a b => ⟨fun ht => ?_, fun hs => ?_⟩,
    ⟨exec_eq_receiveBytes, fun p code tag pl s => exec_unknownRequestCode_eq_receiveBytes s p code tag pl,
      fun p s l1 l0 junk rest hs hc => ?_⟩,
    fun l1 l0 junk rest more => ?_⟩
  · intro x refuse idle permitted session sessionRow noSession barred guarded level levelBars
    have hperm : mayIssue f.port f.code f.payload ((s.port f.port).coverView == .opened) = true ↔ permitted := by
      obtain ⟨p, code, tag, pl⟩ := f
      cases p
      · exact mayIssue_ulk code pl _
      · exact mayIssue_slk code pl _
      · exact (mayIssue_opt code pl _).trans (by rw [beq_iff_eq])
    have hsession : s.sessionOpen = true ↔ session := s.sessionOpen_iff
    have hrow : sessionCode f.code = true ↔ sessionRow := sessionCode_iff f.code
    have hguard : protectedCode f.code = true ↔ guarded := protectedCode_iff f.code
    have hlevel : protectionRefuses level f.code f.payload = true ↔ levelBars := protectionRefuses_iff ..
    refine ⟨fun hs => ?_, fun hs hc => ⟨exec_busy c f s hw hf hs hc, fun hi hp => ?_, fun hi hp hst => ?_⟩,
      fun hm hc hi hp => ?_⟩
    · rw [exec_eq_receiveBytes c f s hw hf, State.receiveBytes_deaf _ _ _ (s.portsListen_eq_false hs)]
    · exact exec_refusedAt c f s _ nofun hw hf hs hc hi (portRefusal_notPermitted s _ _ _ (mt hperm.mp hp))
    · exact exec_refusedAt c f s _ nofun hw hf hs hc hi (portRefusal_notReady s _ _ _ (hperm.mpr hp) hst)
    · have hmay := hperm.mpr hp
      have refused (res : Result) (hne : res ≠ .protectedByLevel)
          (hr : portRefusal s f.port f.code f.payload = some res) : refuse res :=
        exec_refusedAt c f s res hne hw hf (.inr hm) hc hi hr
      refine ⟨fun ⟨hport, hs, hr, h1, h2⟩ => refused _ nofun (portRefusal_session s _ _ _ _ hmay hm ?_),
        fun ⟨hport, hs, hr⟩ => refused _ nofun (portRefusal_session s _ _ _ _ hmay hm ?_), fun hb hn => ?_⟩
      · rw [hport]
        exact sessionRefusal_barred s f.code (hsession.mpr hs) (Bool.eq_false_iff.mpr (mt hrow.mp hr)) h1 h2
      · rw [hport]
        exact sessionRefusal_noSession s f.code (Bool.eq_false_iff.mpr (mt hsession.mp hs)) (hrow.mpr hr)
      · have hnone := sessionRefusal_none s f.port f.code (by rw [hsession, hrow]; exact hb)
          (by rw [hsession, hrow]; exact hn)
        refine ⟨fun hg he => refused _ nofun (portRefusal_writeNotEnabled s _ _ _ hmay hm hnone (hguard.mpr hg) he),
          fun hg hl => ?_, fun hg hl hlen => ?_⟩
        · have hr := portRefusal_level s _ _ _ hmay hm hnone fun h => hg (hguard.mp h)
          rw [if_pos (hlevel.mpr hl)] at hr
          rw [exec_refused c f s _ hw hf (.inr hm) hc hi hr,
            State.refuseAtPort_protected _ _ _ _ (protectedCode_of_refused _ _ _ (hlevel.mpr hl))]
        · have hr := portRefusal_level s _ _ _ hmay hm hnone fun h => hg (hguard.mp h)
          rw [if_neg (mt hlevel.mp hl)] at hr
          exact exec_badLength c f s hw hf ⟨hm, hi, payload_le_of_frame c f hw hf, hr, hc⟩ hlen
  · rw [exec_unknownRequestCode_eq_receiveBytes s p code tag pl hk hn,
      State.receiveBytes_deaf _ _ _ (s.portsListen_eq_false hs)]
  · exact exec_unknownRequestCode_refused s p code tag pl hk hn (s.portsListen_eq_true hs) hc
  · cases ht
    exact congrArg _ (State.receiveBytes_append ..)
  · exact congrArg _ (State.receiveBytes_deaf _ _ _ (s.portsListen_eq_false hs))
  · intro start len takes holding
    have quiet := fun bytes buf frames =>
      exec_linkFrameDiscarded_quiet s p bytes buf frames (s.portsListen_eq_true hs) hc
    have dropped := fun bytes frames =>
      s.setPort_collecting_nil p hc ▸ quiet bytes [] frames
    refine ⟨fun hj => dropped _ [] (collect_ignored _ _ junk hj) rfl, quiet _ _ [] rfl rfl, quiet _ _ [] rfl rfl,
      fun hl => dropped _ [] (collect_link_tooLong l1 l0 hl) rfl, fun hl hr => quiet _ _ [] ?_ rfl,
      fun hl hr hbad => dropped _ [start] (collect_link_whole l1 l0 rest hl hr) ?_⟩
    · rw [collect_link_header l1 l0 rest hl, collect_link_begun l1 l0 [] rest hl (by simpa using hr)]
      rfl
    · rw [List.filterMap_cons_none (parseLinkFrame_eq_none start hbad)]
      rfl
  · intro whole start len
    refine ⟨fun hj => linkFrames_append junk more [] (collect_ignored _ _ junk hj), fun f hf => ?_,
      fun hl => linkFrames_append _ more [] (collect_link_tooLong l1 l0 hl), fun hl hr hbad => ?_, fun hl hr => ?_,
      rfl, rfl⟩
    · exact (linkFrames_append _ more _ (collect_frame_bytes f hf)).trans (by simp [parseLinkFrame_bytes f hf])
    · exact (linkFrames_append start more _ (collect_link_whole l1 l0 rest hl hr)).trans
        (by rw [List.filterMap_cons_none (parseLinkFrame_eq_none start hbad)]; rfl)
    · rw [linkFrames, collect_link_header l1 l0 rest hl, collect_link_begun l1 l0 [] rest hl (by simpa using hr)]
      rfl

end Sys2Proof.Machine
end

section
/-! PROOFS. What the operations that the blocks share leave of the queue of commands: an answer, an attention report, the clock's
slots and notices, the store's client queue, mail taken (O2). -/

namespace Sys2Proof.Machine

variable (s : State)

@[simp] theorem State.setPending_setPending (q r) : (s.setPending q).setPending r = s.setPending r := rfl

/-- The queue of the state a condition chooses is the one the condition chooses. -/
@[simp] theorem State.pending_ite (c : Prop) [Decidable c] (t u : State) :
    (if c then t else u).pending = if c then t.pending else u.pending := apply_ite State.pending c t u

/-- A fold leaves the queue when each of its steps does. -/
theorem State.foldl_pending {α : Type} (f : State → α → State) (hf : ∀ t a, (f t a).pending = t.pending) (l : List α) :
    (l.foldl f s).pending = s.pending := by
  induction l generalizing s with
  | nil => rfl
  | cons a l ih => rw [List.foldl_cons, ih, hf]

/-- A row that answers a next state and leaves the queue of commands (log 23, 24). -/
def Completes (s : State) (o : Host.Outcome State Fault Refusal) : Prop := ∃ t, o = .next t ∧ t.pending = s.pending

theorem completes_next {s t : State} (h : t.pending = s.pending) : Completes s (.next t) := ⟨t, rfl, h⟩

/-! ## Answers and reports (R192, R202) -/

@[simp] theorem State.reply_pending (o res payload) : (s.reply o res payload).pending = s.pending := by
  rw [State.reply_frame]

@[simp] theorem State.report_pending (p m present) : (s.report p m present).pending = s.pending := by
  rw [State.report_eq]

/-! ## The clock's slots and notices (R43, R52) -/

@[simp] theorem State.sendClock_pending (o m) : (s.sendClock o m).pending = s.pending := rfl

@[simp] theorem State.testSlot_pending (o how) : (s.testSlot o how).pending = s.pending := by
  cases h : s.cck.due.get o <;> simp [State.testSlot, h]

@[simp] theorem State.testSlots_pending (how) : (s.testSlots how).pending = s.pending := by
  simp [State.testSlots]

@[simp] theorem State.arm_pending (o t how) : (s.arm o t how).pending = s.pending := by
  simp [State.arm]

@[simp] theorem State.testInTurn_pending (o how) : (s.testInTurn o how).pending = s.pending := by
  cases h : s.cck.due.get o <;> simp [State.testInTurn, h]

@[simp] theorem State.armInTurn_pending (o t how) : (s.armInTurn o t how).pending = s.pending := by
  simp [State.armInTurn]

@[simp] theorem State.notify_pending (o n) : (s.notify o n).pending = s.pending := by
  simp [State.notify]

@[simp] theorem State.changeTime_pending (kind time gen valid) :
    (s.changeTime kind time gen valid).pending = s.pending := by
  simp [State.changeTime]

@[simp] theorem State.reportUnset_pending (present) : (s.reportUnset present).pending = s.pending := by
  simp [State.reportUnset]

@[simp] theorem State.advanceClock_pending : s.advanceClock.pending = s.pending := by
  simp only [State.advanceClock, State.wrapClock]
  split <;> simp

/-! ## Mail taken -/

theorem State.takeDue_pending {s t : State} {o : Owner} {d : Due} (h : s.takeDue o = some (d, t)) :
    t.pending = s.pending := by
  unfold State.takeDue at h
  split at h
  · split at h <;> cases h
    rfl
  · cases h

theorem State.takeNotice_pending {s t : State} {o : Owner} {n : Notice} (h : s.takeNotice o = some (n, t)) :
    t.pending = s.pending := by
  unfold State.takeNotice at h
  split at h
  · split at h <;> cases h
    rfl
  · cases h

theorem State.takeStore_pending {s t : State} {u : Receiver} {m : StoreMail} (h : s.takeStore u = some (m, t)) :
    t.pending = s.pending := by
  unfold State.takeStore at h
  split at h <;> cases h
  rfl

/-! ## The store's client queue (R155, R158) -/

@[simp] theorem State.sendStore_pending (m) : (s.sendStore m).pending = s.pending := rfl

@[simp] theorem State.refuseClient_pending (c) : (s.refuseClient c).pending = s.pending := by
  cases c <;> rfl

@[simp] theorem State.enqueue_pending (c ops) : (s.enqueue c ops).pending = s.pending := by
  simp [State.enqueue]

@[simp] theorem State.placeRoutine_pending : s.placeRoutine.pending = s.pending := by
  simp [State.placeRoutine]

@[simp] theorem State.wantImage_pending : s.wantImage.pending = s.pending := by
  simp [State.wantImage]

end Sys2Proof.Machine
end

section
/-! PROOFS. What TCU, IPU and CCK leave of the queue of commands: the operations of the calendar, of the
profile ring and of the open interval, and the rows of the three blocks (O2). -/

namespace Sys2Proof.Machine

variable (s : State)

/-! ## The clock's row and its requests -/

theorem execClockAdvance_completes : Completes s (execClockAdvance s) := completes_next (by simp)

@[simp] theorem State.setClock_pending (time o) : (s.setClock time o).pending = s.pending := by
  simp [State.setClock]

@[simp] theorem State.adjustClock_pending (delta o) : (s.adjustClock delta o).pending = s.pending := by
  simp [State.adjustClock, State.adjustTo]

/-! ## The calendar and the band (R58 to R63) -/

@[simp] theorem State.decideBand_pending (t valid) : (s.decideBand t valid).pending = s.pending := by
  simp [State.decideBand]

@[simp] theorem State.armTcu_pending (t valid how) : (s.armTcu t valid how).pending = s.pending := by
  simp [State.armTcu]

@[simp] theorem State.armTcuInTurn_pending (t valid how) : (s.armTcuInTurn t valid how).pending = s.pending := by
  simp [State.armTcuInTurn]

@[simp] theorem State.computeBoundary_pending (t valid) : (s.computeBoundary t valid).pending = s.pending := rfl

@[simp] theorem State.renewBoundary_pending : s.renewBoundary.pending = s.pending := by
  simp [State.renewBoundary]

@[simp] theorem State.askMark_pending : s.askMark.pending = s.pending := by
  simp [State.askMark]

@[simp] theorem State.activateDue_pending (present) : (s.activateDue present).pending = s.pending := by
  unfold State.activateDue
  split <;> simp [State.activate]

theorem execTcuDueEvent_completes : Completes s (execTcuDueEvent s) := by
  refine completes_next ?_
  split
  next h => simp [State.tcuTakeDue, State.takeDue_pending h]
  next => rfl

theorem execTcuChangeNotice_completes : Completes s (execTcuChangeNotice s) := by
  refine completes_next ?_
  split
  next h => simp [State.tcuTakeNotice, State.takeNotice_pending h]
  next => rfl

theorem execTcuIntervalLengthReport_completes : Completes s (execTcuIntervalLengthReport s) :=
  completes_next (by simp)

theorem execTcuResumption_completes : Completes s (execTcuResumption s) := by
  refine completes_next ?_
  split
  next =>
    dsimp only
    split <;> simp
  next => rfl

/-! ## Calendar load sessions (R64 to R72) -/

@[simp] theorem State.beginCalendar_pending (f o) : (s.beginCalendar f o).pending = s.pending := by
  unfold State.beginCalendar
  split <;> simp

/-- A judgement of a session leaves the queue when what it does with the staged calendar does. -/
theorem State.inSession_pending (o : Origin) (judge : Calendar → State → State)
    (hj : ∀ c t, (judge c t).pending = t.pending) : (s.inSession o judge).pending = s.pending := by
  unfold State.inSession
  split <;> simp [hj]

@[simp] theorem State.stage_pending (c o) : (s.stage c o).pending = s.pending := by
  simp [State.stage]

@[simp] theorem State.loadDayProfile_pending (f o) : (s.loadDayProfile f o).pending = s.pending :=
  State.inSession_pending _ _ _ (by simp)

@[simp] theorem State.loadWeek_pending (entries o) : (s.loadWeek entries o).pending = s.pending :=
  State.inSession_pending _ _ _ (by simp)

@[simp] theorem State.loadSpecialDay_pending (entries o) : (s.loadSpecialDay entries o).pending = s.pending :=
  State.inSession_pending _ _ _ (by simp)

@[simp] theorem State.abortCalendar_pending (o) : (s.abortCalendar o).pending = s.pending :=
  State.inSession_pending _ _ _ (by simp)

@[simp] theorem State.commitCalendar_pending (o) : (s.commitCalendar o).pending = s.pending :=
  State.inSession_pending _ _ _ fun _ _ => by split <;> simp [State.writeCalendar]

@[simp] theorem State.answerCalendar_pending (f o) : (s.answerCalendar f o).pending = s.pending := by
  unfold State.answerCalendar
  split
  next => simp
  next => split <;> simp

theorem execSessionTimerExpiry_completes : Completes s (execSessionTimerExpiry s) := by
  refine completes_next ?_
  unfold State.expireSession
  split <;> simp

@[simp] theorem State.discardErased_pending (o) : (s.discardErased o).pending = s.pending := by
  unfold State.discardErased
  split <;> simp

@[simp] theorem State.discardRefused_pending (o) : (s.discardRefused o).pending = s.pending := by
  unfold State.discardRefused
  split <;> simp

theorem execCalendarDiscardEraseOutcome_completes : Completes s (execCalendarDiscardEraseOutcome s) := by
  refine completes_next ?_
  split
  next h => simp [State.takeStore_pending h]
  next h => simp [State.takeStore_pending h]
  next => rfl

@[simp] theorem State.calendarWritten_pending (seq o) : (s.calendarWritten seq o).pending = s.pending := by
  unfold State.calendarWritten
  split <;> simp

@[simp] theorem State.calendarRefused_pending (seq o) : (s.calendarRefused seq o).pending = s.pending := by
  simp [State.calendarRefused]

theorem execCalendarCommitWriteOutcome_completes : Completes s (execCalendarCommitWriteOutcome s) := by
  refine completes_next ?_
  split
  next h => simp [State.takeStore_pending h]
  next h => simp [State.takeStore_pending h]
  next => rfl

/-! ## The profile ring (R93 to R102) -/

@[simp] theorem State.tryHand_pending : s.tryHand.pending = s.pending := by
  unfold State.tryHand
  split <;> simp

@[simp] theorem State.askProfileErase_pending : s.askProfileErase.pending = s.pending := by
  simp [State.askProfileErase]

@[simp] theorem State.advanceWrite_pending : s.advanceWrite.pending = s.pending := by
  simp only [State.advanceWrite]
  split <;> simp

@[simp] theorem State.countAppend_pending : s.countAppend.pending = s.pending := by
  simp [State.countAppend]

@[simp] theorem State.appendDone_pending : s.appendDone.pending = s.pending := by
  unfold State.appendDone
  split <;> simp

@[simp] theorem State.appendRefused_pending : s.appendRefused.pending = s.pending := by
  simp [State.appendRefused]

theorem execProfileAppendSettled_completes : Completes s (execProfileAppendSettled s) := by
  refine completes_next ?_
  split
  next h => simp [State.takeStore_pending h]
  next h => simp [State.takeStore_pending h]
  next => rfl

theorem execProfileEraseGrant_completes : Completes s (execProfileEraseGrant s) := by
  refine completes_next ?_
  split
  next h => simp [State.takeStore_pending h]
  next => rfl

theorem execProfileEraseOutcome_completes : Completes s (execProfileEraseOutcome s) := by
  refine completes_next ?_
  split
  next h => simp [State.takeStore_pending h]
  next h => exact State.takeStore_pending h
  next => rfl

@[simp] theorem State.readRing_pending (fromCursor first n o) :
    (s.readRing fromCursor first n o).pending = s.pending := by
  unfold State.readRing
  split
  next => split <;> simp
  next => simp

@[simp] theorem State.acknowledge_pending (last o) : (s.acknowledge last o).pending = s.pending := by
  simp [State.acknowledge]

theorem execProfileReadCompletion_completes : Completes s (execProfileReadCompletion s) := by
  refine completes_next ?_
  split
  next h => simp [State.takeStore_pending h]
  next => rfl

/-! ## The open interval (R81 to R92) -/

@[simp] theorem State.flagInterval_pending (f) : (s.flagInterval f).pending = s.pending := rfl

@[simp] theorem State.mapInterval_pending (f) : (s.mapInterval f).pending = s.pending := rfl

@[simp] theorem State.closeInterval_pending (iv c) : (s.closeInterval iv c).pending = s.pending := rfl

@[simp] theorem State.openInterval_pending (t gen how) : (s.openInterval t gen how).pending = s.pending := by
  simp [State.openInterval, State.placeInterval]

@[simp] theorem State.openInTurn_pending (t gen how) : (s.openInTurn t gen how).pending = s.pending := by
  simp [State.openInTurn, State.placeInterval]

@[simp] theorem State.takeLength_pending : s.takeLength.pending = s.pending := by
  unfold State.takeLength
  split <;> simp

@[simp] theorem State.takeLengthAt_pending (e) : (s.takeLengthAt e).pending = s.pending := by
  unfold State.takeLengthAt
  split <;> simp

@[simp] theorem State.ipuTakeDue_pending (d) : (s.ipuTakeDue d).pending = s.pending := by
  unfold State.ipuTakeDue
  split <;> simp

theorem execIpuDueEvent_completes : Completes s (execIpuDueEvent s) := by
  refine completes_next ?_
  split
  next h => simp [State.takeDue_pending h]
  next => rfl

@[simp] theorem State.closeEarly_pending (iv n) : (s.closeEarly iv n).pending = s.pending := by
  simp [State.closeEarly]

@[simp] theorem State.ipuTakeNotice_pending (n) : (s.ipuTakeNotice n).pending = s.pending := by
  cases hk : n.kind with
  | trim => simp [State.ipuTakeNotice, hk]
  | set | adjust | wrap => cases h : s.ipu.interval <;> simp [State.ipuTakeNotice, hk, h]

theorem execIpuChangeNotice_completes : Completes s (execIpuChangeNotice s) := by
  refine completes_next ?_
  split
  next h => simp [State.takeNotice_pending h]
  next => rfl

theorem execIpuSplitIncrement_completes : Completes s (execIpuSplitIncrement s) := by
  refine completes_next ?_
  split
  next => split <;> simp
  next => rfl

theorem execIpuMissedEpochReport_completes : Completes s (execIpuMissedEpochReport s) := by
  refine completes_next ?_
  split
  next => split <;> simp
  next => rfl

theorem execIpuBandNotice_completes : Completes s (execIpuBandNotice s) := by
  refine completes_next ?_
  split <;> simp

theorem execIpuActivationNotice_completes : Completes s (execIpuActivationNotice s) := by
  refine completes_next ?_
  split
  next =>
    unfold State.takeActivation
    split
    next => split <;> simp
    next => rfl
  next => rfl

theorem execIpuInterlockReport_completes : Completes s (execIpuInterlockReport s) := by
  refine completes_next ?_
  split <;> simp [State.takeInterlock]

theorem execIpuTamperReport_completes : Completes s (execIpuTamperReport s) := completes_next (by simp)

/-! ## The interval length and the thresholds (R90, R101) -/

@[simp] theorem State.writeLength_pending (v o) : (s.writeLength v o).pending = s.pending := by
  simp [State.writeLength]

@[simp] theorem State.lengthWritten_pending (v before o) : (s.lengthWritten v before o).pending = s.pending := by
  simp [State.lengthWritten]

theorem execIntervalLengthWriteCompletion_completes : Completes s (execIntervalLengthWriteCompletion s) := by
  refine completes_next ?_
  split
  next h => simp [State.takeStore_pending h]
  next h => simp [State.takeStore_pending h]
  next => rfl

theorem execIntervalLengthRestoreCompletion_completes : Completes s (execIntervalLengthRestoreCompletion s) := by
  refine completes_next ?_
  split
  next h => simp [State.takeStore_pending h]
  next h => simp [State.takeStore_pending h]
  next => rfl

@[simp] theorem State.writeRanged_pending (lo hi v w o) : (s.writeRanged lo hi v w o).pending = s.pending := by
  simp [State.writeRanged]

theorem execThresholdWriteCompletion_completes : Completes s (execThresholdWriteCompletion s) := by
  refine completes_next ?_
  split
  next h => simp [State.takeStore_pending h]
  next h => simp [State.takeStore_pending h]
  next h => simp [State.takeStore_pending h]
  next h => simp [State.takeStore_pending h]
  next => rfl

/-! ## Resumption of IPU (R106) -/

@[simp] theorem State.resumeSaved_pending (iv imageTime) : (s.resumeSaved iv imageTime).pending = s.pending := by
  simp [State.resumeSaved]

@[simp] theorem State.ipuResume_pending : s.ipuResume.pending = s.pending := by
  simp only [State.ipuResume]
  split <;> split <;> simp

theorem execIpuResumption_completes : Completes s (execIpuResumption s) := completes_next (by simp)

end Sys2Proof.Machine
end

section
/-! PROOFS. What BFU, NAU, ECU and MFP leave of the queue of commands: freezes, directives, trips and
reclosings, frames and missed epochs, and the rows of the four blocks (O2). -/

namespace Sys2Proof.Machine

variable (s : State)

/-! ## Freezes (R110 to R123) -/

@[simp] theorem State.handFreeze_pending : s.handFreeze.pending = s.pending := by
  unfold State.handFreeze
  split <;> simp

@[simp] theorem State.takeFreeze_pending (cause date) : (s.takeFreeze cause date).pending = s.pending := by
  simp [State.takeFreeze]

@[simp] theorem State.requestFreeze_pending (o) : (s.requestFreeze o).pending = s.pending := by
  simp [State.requestFreeze]

@[simp] theorem State.armBfu_pending (t valid how) : (s.armBfu t valid how).pending = s.pending := by
  simp [State.armBfu]

@[simp] theorem State.armBfuInTurn_pending (t valid how) : (s.armBfuInTurn t valid how).pending = s.pending := by
  simp [State.armBfuInTurn]

@[simp] theorem State.scheduleFreeze_pending (b) : (s.scheduleFreeze b).pending = s.pending := by
  simp [State.scheduleFreeze]

@[simp] theorem State.bfuTakeDue_pending (d) : (s.bfuTakeDue d).pending = s.pending := by
  cases h : s.claim d.present <;> simp [State.bfuTakeDue, h]

theorem execBfuDueEvent_completes : Completes s (execBfuDueEvent s) := by
  refine completes_next ?_
  split
  next h => simp [State.takeDue_pending h]
  next => rfl

theorem execBfuChangeNotice_completes : Completes s (execBfuChangeNotice s) := by
  refine completes_next ?_
  split
  next h => simp [State.takeNotice_pending h]
  next => rfl

theorem execBillingDayWriteCompletion_completes : Completes s (execBillingDayWriteCompletion s) := by
  refine completes_next ?_
  split
  next h => simp [State.takeStore_pending h]
  next h => simp [State.takeStore_pending h]
  next => rfl

@[simp] theorem State.askFrozenErase_pending : s.askFrozenErase.pending = s.pending := by
  simp [State.askFrozenErase]

@[simp] theorem State.advanceFrozen_pending : s.advanceFrozen.pending = s.pending := by
  simp only [State.advanceFrozen]
  split
  next => split <;> simp
  next => rfl

@[simp] theorem State.endWriteStep_pending : s.endWriteStep.pending = s.pending := rfl

@[simp] theorem State.takeDeferred_pending : s.takeDeferred.pending = s.pending := by
  simp [State.takeDeferred]

@[simp] theorem State.frozenWritten_pending : s.frozenWritten.pending = s.pending := by
  unfold State.frozenWritten
  split <;> simp [State.joinHistory]

theorem execFrozenSetWriteCompletion_completes : Completes s (execFrozenSetWriteCompletion s) := by
  refine completes_next ?_
  split
  next h => simp [State.takeStore_pending h]
  next => rfl

theorem execFrozenSetWriteRefusal_completes : Completes s (execFrozenSetWriteRefusal s) := by
  refine completes_next ?_
  split
  next h => simp [State.takeStore_pending h]
  next => rfl

theorem execFrozenSetEraseGrant_completes : Completes s (execFrozenSetEraseGrant s) := by
  refine completes_next ?_
  split
  next h => simp [State.takeStore_pending h]
  next => rfl

theorem execFrozenSetEraseOutcome_completes : Completes s (execFrozenSetEraseOutcome s) := by
  refine completes_next ?_
  split
  next h => simp [State.takeStore_pending h]
  next h => simp [State.takeStore_pending h]
  next => rfl

@[simp] theorem State.readHistory_pending (index o) : (s.readHistory index o).pending = s.pending := by
  cases h : s.bfu.history[index]? <;> simp [State.readHistory, h]

@[simp] theorem State.frozenRead_pending (number set o) : (s.frozenRead number set o).pending = s.pending := by
  cases set <;> simp [State.frozenRead]

theorem execFrozenReadCompletion_completes : Completes s (execFrozenReadCompletion s) := by
  refine completes_next ?_
  split
  next h => simp [State.takeStore_pending h]
  next => rfl

@[simp] theorem State.bfuResume_pending : s.bfuResume.pending = s.pending := by
  simp [State.bfuResume]

theorem execBfuResumption_completes : Completes s (execBfuResumption s) := completes_next (by simp)

/-! ## Netting (R4 to R20) -/

theorem execNauEpochIncrement_completes : Completes s (execNauEpochIncrement s) := by
  refine completes_next ?_
  split
  next => split <;> simp [State.nauTake]
  next => rfl

@[simp] theorem State.writeNetting_pending (v o) : (s.writeNetting v o).pending = s.pending := by
  unfold State.writeNetting
  split <;> simp

theorem execNettingModeWriteCompletion_completes : Completes s (execNettingModeWriteCompletion s) := by
  refine completes_next ?_
  split
  next h => simp [State.takeStore_pending h]
  next h => simp [State.takeStore_pending h]
  next => rfl

theorem execNauIntervalClose_completes : Completes s (execNauIntervalClose s) := by
  refine completes_next ?_
  split <;> rfl

theorem execNauDemandReport_completes : Completes s (execNauDemandReport s) := by
  refine completes_next ?_
  split <;> rfl

@[simp] theorem State.clearRegisters_pending (o) : (s.clearRegisters o).pending = s.pending := by
  cases h : s.dsc.lifecycle <;> simp [State.clearRegisters, h]

/-! ## The limit, the handshake and the interlock (R125 to R146) -/

@[simp] theorem State.armEcu_pending (valid how) : (s.armEcu valid how).pending = s.pending := by
  simp [State.armEcu]

@[simp] theorem State.armEcuInTurn_pending (valid how) : (s.armEcuInTurn valid how).pending = s.pending := by
  simp [State.armEcuInTurn]

@[simp] theorem State.setInterlock_pending (i) : (s.setInterlock i).pending = s.pending := by
  simp [State.setInterlock]

@[simp] theorem State.raiseOpen_pending : s.raiseOpen.pending = s.pending := by
  simp [State.raiseOpen]

@[simp] theorem State.trip_pending (t c) : (s.trip t c).pending = s.pending := by
  simp [State.trip]

@[simp] theorem State.issueNotice_pending (now) : (s.issueNotice now).pending = s.pending := by
  simp [State.issueNotice]

@[simp] theorem State.recompute_pending (now valid) : (s.recompute now valid).pending = s.pending := by
  simp [State.recompute, State.tripIfLost]

@[simp] theorem State.setList_pending (l) : (s.setList l).pending = s.pending := by
  simp [State.setList]

@[simp] theorem State.endOpenTime_pending (p) : (s.endOpenTime p).pending = s.pending := by
  unfold State.endOpenTime
  split <;> simp

theorem execEcuDueEvent_completes : Completes s (execEcuDueEvent s) := by
  refine completes_next ?_
  split
  next h => simp [State.ecuTakeDue, State.takeDue_pending h]
  next => rfl

theorem execEcuChangeNotice_completes : Completes s (execEcuChangeNotice s) := by
  refine completes_next ?_
  split
  next h => simp [State.ecuTakeNotice, State.takeNotice_pending h]
  next => rfl

@[simp] theorem State.placeDirective_pending (f room) : (s.placeDirective f room).pending = s.pending := by
  simp [State.placeDirective]

@[simp] theorem State.postDirective_pending (f o) : (s.postDirective f o).pending = s.pending := by
  cases h : makeRoom s.ecu.list f.id f.priority <;> simp [State.postDirective, h]

@[simp] theorem State.cancelDirective_pending (id o) : (s.cancelDirective id o).pending = s.pending := by
  simp [State.cancelDirective]

@[simp] theorem State.ackSetpoint_pending (n o) : (s.ackSetpoint n o).pending = s.pending := by
  simp [State.ackSetpoint]

@[simp] theorem State.reclose_pending (o) : (s.reclose o).pending = s.pending := by
  cases hi : s.ecu.interlock with
  | openReady => cases h : s.ecu.recloseRefusal <;> simp [State.reclose, hi, h]
  | closed | openWait | held => simp [State.reclose, hi]

@[simp] theorem State.holdOn_pending : s.holdOn.pending = s.pending := by
  simp [State.holdOn]

@[simp] theorem State.holdOff_pending : s.holdOff.pending = s.pending := by
  cases h : s.ecu.openEnd <;> simp [State.holdOff, h]

@[simp] theorem State.utilityHold_pending (v o) : (s.utilityHold v o).pending = s.pending := by
  unfold State.utilityHold
  split <;> simp [State.answerHold]

/-! ## What ECU takes from MFP and the store (R134, R139 to R141) -/

@[simp] theorem State.judgeEpoch_pending (inc) : (s.judgeEpoch inc).pending = s.pending := by
  simp [State.judgeEpoch]

@[simp] theorem State.takePort_pending (st) : (s.takePort st).pending = s.pending := by
  simp only [State.takePort]
  split <;> simp

@[simp] theorem State.takeEcuMail_pending (m) : (s.takeEcuMail m).pending = s.pending := by
  cases m <;> simp [State.takeEcuMail]

theorem execEcuEpochIncrement_completes : Completes s (execEcuEpochIncrement s) := by
  refine completes_next ?_
  split
  next => split <;> simp
  next => rfl

theorem execEcuMfpStateReport_completes : Completes s (execEcuMfpStateReport s) := by
  refine completes_next ?_
  split <;> simp

@[simp] theorem State.settleMfp_pending : s.settleMfp.pending = s.pending := by
  unfold State.settleMfp
  generalize s.mail.ecuMfp = ms
  induction ms generalizing s with
  | nil => rfl
  | cons m rest ih => simp [State.settleFrom, ih]

@[simp] theorem State.takeEcuItem_pending (w) : (s.takeEcuItem w).pending = s.pending := by
  cases w <;> simp [State.takeEcuItem]

theorem execEcuConfigWriteCompletion_completes : Completes s (execEcuConfigWriteCompletion s) := by
  refine completes_next ?_
  split
  next h => simp [State.takeStore_pending h]
  next h => simp [State.takeStore_pending h]
  next => rfl

@[simp] theorem State.resumeHandshake_pending (now) : (s.resumeHandshake now).pending = s.pending := by
  cases h : s.ecu.handshake <;> simp [State.resumeHandshake, h]

@[simp] theorem State.ecuResume_pending : s.ecuResume.pending = s.pending := by
  cases h : s.ssv.kind <;> simp [State.ecuResume, State.ecuResumeImage, h]

theorem execEcuResumption_completes : Completes s (execEcuResumption s) := completes_next (by simp)

/-! ## Measurement frames (R26 to R38) -/

@[simp] theorem State.reportPort_pending (was now) : (s.reportPort was now).pending = s.pending := by
  simp [State.reportPort, State.sendEcu]

@[simp] theorem State.takeFrame_pending (slots) : (s.takeFrame slots).pending = s.pending := by
  cases h : s.mfp.judge (headerSeq slots) <;> simp [State.takeFrame, State.deliver, State.sendEcu, h]

theorem execMeasurementFrame_completes (bytes) : Completes s (execMeasurementFrame bytes s) := by
  refine completes_next ?_
  simp [State.receive, State.foldl_pending]

theorem execFrameDeadlineExpiry_completes : Completes s (execFrameDeadlineExpiry s) := by
  refine completes_next ?_
  unfold State.expireDeadline
  split <;> simp [State.missEpoch]

@[simp] theorem State.writeSlotMap_pending (value o) : (s.writeSlotMap value o).pending = s.pending := by
  unfold State.writeSlotMap
  split <;> simp

theorem execSlotMapWriteCompletion_completes : Completes s (execSlotMapWriteCompletion s) := by
  refine completes_next ?_
  split
  next h => simp [State.takeStore_pending h]
  next h => simp [State.takeStore_pending h]
  next => rfl

theorem execMfpIntervalClose_completes : Completes s (execMfpIntervalClose s) := completes_next (by simp)

end Sys2Proof.Machine
end

section
/-! PROOFS. What DSC, CVM and SSV leave of the queue of commands: grants, operations and their outcomes, image
parts, the cover, the restart and the supply, and the rows of the three blocks (O2). -/

namespace Sys2Proof.Machine

variable (s : State)

/-! ## Grants and image parts (R156, R161 to R166) -/

@[simp] theorem State.startNext_pending (r) : (s.startNext r).pending = s.pending := by
  unfold State.startNext
  split
  next => rfl
  next op _ _ => cases op <;> simp

@[simp] theorem State.beginGather_pending (r) : (s.beginGather r).pending = s.pending := rfl

@[simp] theorem State.reportHoldup_pending (ok seq) : (s.reportHoldup ok seq).pending = s.pending := rfl

@[simp] theorem State.startImage_pending (r) : (s.startImage r).pending = s.pending := by
  simp [State.startImage, State.endUnbuilt]

@[simp] theorem State.runRequest_pending (r) : (s.runRequest r).pending = s.pending := by
  cases h : r.client.configItem <;> simp [State.runRequest, State.buildConfig, h]

@[simp] theorem State.grantArray_pending : s.grantArray.pending = s.pending := by
  unfold State.grantArray
  split
  next => split <;> simp
  next => rfl

theorem execArrayGrant_completes : Completes s (execArrayGrant s) := completes_next (by simp)

@[simp] theorem State.buildImage_pending (g x) : (s.buildImage g x).pending = s.pending := by
  cases h : s.dsc.request g.request <;> simp [State.buildImage, h]

theorem execUnitImagePart_completes (u) : Completes s (execUnitImagePart u s) := by
  refine completes_next ?_
  unfold State.takePart
  split
  next => rfl
  next =>
    dsimp only
    split <;> simp

/-! ## Operations (R153, R157, R158) -/

@[simp] theorem State.advanceSlot_pending : s.advanceSlot.pending = s.pending := by
  simp [State.advanceSlot]

@[simp] theorem State.finishRequest_pending (r seq) : (s.finishRequest r seq).pending = s.pending := by
  unfold State.finishRequest
  split <;> simp

@[simp] theorem State.afterOperation_pending (r op used) : (s.afterOperation r op used).pending = s.pending := by
  simp only [State.afterOperation]
  split <;> simp [State.holdupErased]

@[simp] theorem State.operationDone_pending (x) : (s.operationDone x).pending = s.pending := by
  unfold State.operationDone
  split <;> simp

@[simp] theorem State.failRequest_pending (r) : (s.failRequest r).pending = s.pending := by
  simp [State.failRequest]

@[simp] theorem State.enterFault_pending (x) : (s.enterFault x).pending = s.pending := by
  cases h : s.dsc.request x.request <;> simp [State.enterFault, State.raiseAlarm, State.foldl_pending, h]

@[simp] theorem State.programDone_pending (x p r) : (s.programDone x p r).pending = s.pending := by
  unfold State.programDone
  split <;> simp

@[simp] theorem State.completeOperation_pending (x r) : (s.completeOperation x r).pending = s.pending := by
  unfold State.completeOperation
  split <;> simp

theorem execOperationCompletion_completes (r) : Completes s (execOperationCompletion r s) := by
  refine completes_next ?_
  split
  next => rfl
  next => split <;> simp

/-! ## The cover, the protection and the lifecycle (R168 to R174) -/

@[simp] theorem State.tellOptical_pending (c) : (s.tellOptical c).pending = s.pending := by
  simp [State.tellOptical]

@[simp] theorem State.reportTamper_pending (present) : (s.reportTamper present).pending = s.pending := by
  simp [State.reportTamper]

@[simp] theorem State.takeOpening_pending : s.takeOpening.pending = s.pending := by
  simp [State.takeOpening, State.openingToIpu]

@[simp] theorem State.takeClosing_pending : s.takeClosing.pending = s.pending := by
  simp [State.takeClosing]

theorem execCoverOpening_completes : Completes s (execCoverOpening s) := completes_next (by simp)

theorem execCoverClosing_completes : Completes s (execCoverClosing s) := completes_next (by simp)

theorem execPortCoverReport_completes : Completes s (execPortCoverReport s) := by
  refine completes_next ?_
  split <;> simp

@[simp] theorem State.clearTamper_pending (o) : (s.clearTamper o).pending = s.pending := by
  cases h : s.cvm.cover <;> simp [State.clearTamper, h]

@[simp] theorem State.reportHeldOpening_pending : s.reportHeldOpening.pending = s.pending := by
  simp [State.reportHeldOpening]

theorem execCvmResumption_completes : Completes s (execCvmResumption s) := completes_next (by simp)

@[simp] theorem State.setProtection_pending (f o) : (s.setProtection f o).pending = s.pending := by
  simp [State.setProtection]

theorem execProtectionWriteCompletion_completes : Completes s (execProtectionWriteCompletion s) := by
  refine completes_next ?_
  split
  next h => simp [State.takeStore_pending h]
  next h => simp [State.takeStore_pending h]
  next => rfl

@[simp] theorem State.closeCommissioning_pending (o) : (s.closeCommissioning o).pending = s.pending := by
  cases h : s.store.freeMark <;> simp [State.closeCommissioning, h]

theorem execLifecycleMarkCompletion_completes : Completes s (execLifecycleMarkCompletion s) := by
  refine completes_next ?_
  split
  next h => simp [State.takeStore_pending h]
  next h => simp [State.takeStore_pending h]
  next => rfl

@[simp] theorem State.answerIdentity_pending (o) : (s.answerIdentity o).pending = s.pending := by
  simp [State.answerIdentity]

/-! ## The restart (R176 to R191) -/

@[simp] theorem State.cutOperations_pending : s.cutOperations.pending = s.pending := rfl

@[simp] theorem State.imageStep_pending : s.imageStep.pending = s.pending := rfl

@[simp] theorem State.beginWriteStep_pending : s.beginWriteStep.pending = s.pending := by
  simp only [State.beginWriteStep]
  split
  next => split <;> simp
  next => rfl

@[simp] theorem State.restart_pending : s.restart.pending = s.pending := by
  simp [State.restart]

@[simp] theorem State.enterBackup_pending : s.enterBackup.pending = s.pending := rfl

/-! ## The supply (R177 to R183) -/

theorem execMainsGood_completes : Completes s (execMainsGood s) := completes_next (by simp [State.beginGating])

@[simp] theorem State.orderHoldup_pending : s.orderHoldup.pending = s.pending := by
  simp [State.orderHoldup]

@[simp] theorem State.enterHoldup_pending : s.enterHoldup.pending = s.pending := by
  simp [State.enterHoldup]

theorem execMainsFail_completes : Completes s (execMainsFail s) := by
  refine completes_next ?_
  dsimp only
  split <;> simp

@[simp] theorem State.returnToMains_pending : s.returnToMains.pending = s.pending := by
  simp [State.returnToMains, State.ipuReturned]

@[simp] theorem State.endHoldup_pending (ok seq) : (s.endHoldup ok seq).pending = s.pending := by
  simp [State.endHoldup]

theorem execHoldupCommitEnd_completes : Completes s (execHoldupCommitEnd s) := by
  refine completes_next ?_
  split
  next => split <;> simp
  all_goals rfl

theorem execSupplyEnd_completes : Completes s (execSupplyEnd s) := by
  refine completes_next ?_
  split <;> simp

theorem execRetentionMarkLost_completes : Completes s (execRetentionMarkLost s) := by
  refine completes_next ?_
  split <;> rfl

theorem execGatingTimerExpiry_completes : Completes s (execGatingTimerExpiry s) :=
  completes_next (by simp [State.endGating])

@[simp] theorem State.commandRestart_pending (o) : (s.commandRestart o).pending = s.pending := by
  simp [State.commandRestart]

@[simp] theorem State.endCommanded_pending (ok o) : (s.endCommanded ok o).pending = s.pending := by
  cases ok <;> simp [State.endCommanded]

theorem execCommandedImageCompletion_completes : Completes s (execCommandedImageCompletion s) := by
  refine completes_next ?_
  split <;> simp

theorem execExternalReset_completes : Completes s (execExternalReset s) := by
  refine completes_next ?_
  split <;> simp

theorem execResumption_completes : Completes s (execResumption s) := completes_next (by simp [State.dscResume])

theorem execServiceEntry_completes : Completes s (execServiceEntry s) := completes_next (by simp [State.enterService])

end Sys2Proof.Machine
end

section
/-! PROOFS. What a request leaves of the queue of commands: its hand-over, the port's own answers, the frame of each
request code, and the bytes a port receives; with the attention report (O2). -/

namespace Sys2Proof.Machine

variable (s : State)

/-! ## The hand-over (R192, R193) -/

@[simp] theorem State.respond_pending (p code tag res) : (s.respond p code tag res).pending = s.pending := by
  simp [State.respond]

@[simp] theorem State.refuseAtPort_pending (p code tag res) : (s.refuseAtPort p code tag res).pending = s.pending := by
  simp [State.refuseAtPort]

@[simp] theorem State.beginRequest_pending (p code tag) : (s.beginRequest p code tag).pending = s.pending := by
  simp [State.beginRequest]

@[simp] theorem State.refuseUnknown_pending (p code tag payload) :
    (s.refuseUnknown p code tag payload).pending = s.pending := by
  simp [State.refuseUnknown]

/-- A request leaves the queue when its owner does. -/
@[simp] theorem State.serve_pending (p code tag payload lengthAllowed) (owner : Origin → State → State)
    (ho : ∀ o t, (owner o t).pending = t.pending) :
    (s.serve p code tag payload lengthAllowed owner).pending = s.pending := by
  cases h : portRefusal s p code payload <;> simp [State.serve, h, ho]

@[simp] theorem State.serveWith_pending {α : Type} (p code tag payload) (read : Option α)
    (owner : α → Origin → State → State) (ho : ∀ a o t, (owner a o t).pending = t.pending) :
    (s.serveWith p code tag payload read owner).pending = s.pending := by
  cases read <;> simp [State.serveWith, ho]

/-! ## The port's own requests (R196 to R204) -/

@[simp] theorem State.ask_pending (a o) : (s.ask a o).pending = s.pending := by
  unfold State.ask
  split <;> simp

@[simp] theorem State.answerAttention_pending (o) : (s.answerAttention o).pending = s.pending := by
  simp [State.answerAttention]

@[simp] theorem State.setMask_pending (n o) : (s.setMask n o).pending = s.pending := by
  simp [State.setMask]

theorem execAttentionReport_completes (p m) : Completes s (execAttentionReport p m s) := by
  refine completes_next ?_
  split
  next => split <;> simp
  next => rfl

@[simp] theorem State.enableWrite_pending (o) : (s.enableWrite o).pending = s.pending := by
  simp [State.enableWrite]

@[simp] theorem State.latchRegisters_pending (o) : (s.latchRegisters o).pending = s.pending := by
  unfold State.latchRegisters
  split <;> simp

@[simp] theorem State.readLatched_pending (part o) : (s.readLatched part o).pending = s.pending := by
  unfold State.readLatched
  split <;> simp [State.returnPart]

@[simp] theorem State.releaseLatch_pending (o) : (s.releaseLatch o).pending = s.pending := by
  simp [State.releaseLatch]

/-! ## Frames and bytes (R207 to R209) -/

@[simp] theorem serveWriteConfigUnknownItem_pending (p tag payload) :
    (serveWriteConfigUnknownItem p tag payload s).pending = s.pending :=
  State.serve_pending _ _ _ _ _ _ _ fun _ _ => rfl

@[simp] theorem serveWriteConfig_pending (p tag payload) : (serveWriteConfig p tag payload s).pending = s.pending := by
  unfold serveWriteConfig
  split
  next => simp
  next =>
    split
    next => split <;> simp [
      serveWriteConfigSlotMap, serveWriteConfigNettingMode, serveWriteConfigIntervalLength,
      serveWriteConfigBillingDay, serveWriteConfigStaticConnectionLimit, serveWriteConfigExportTolerance,
      serveWriteConfigGrace, serveWriteConfigAcknowledgementTime, serveWriteConfigMinimumOpenTime,
      serveWriteConfigUtilityThreshold, serveWriteConfigSiteThreshold]
    next => simp

@[simp] theorem State.serveFrame_pending (p f) : (s.serveFrame p f).pending = s.pending := by
  unfold State.serveFrame
  split <;> simp [
    serveReadStatus, serveReadAttention, serveSetAttentionMask, serveLatchRegisters, serveReadLatched,
    serveReleaseLatch, serveReadLive, serveEnableWrite, serveReadConfig, serveReadTime, serveSetTime, serveAdjustTime,
    serveReadCalendar, serveBeginCalendar, serveLoadDayProfile, serveLoadWeek, serveLoadSpecialDay,
    serveCommitCalendar, serveAbortCalendar, serveReadProfile, serveAckProfile, serveReadProfileAt, serveFreeze,
    serveReadFrozen, servePostDirective, serveCancelDirective, serveUtilityHold, serveAckSetpoint,
    serveRecloseRequest, serveReadExportStatus, serveReadDirectives, serveClearRegisters, serveSetProtection,
    serveCloseCommissioning, serveReadIdentity, serveClearTamper, serveRestart, State.answerTime,
    State.answerExportStatus, State.answerDirectives]

@[simp] theorem State.receiveByte_pending (p b) : (s.receiveByte p b).pending = s.pending := by
  simp [State.receiveByte, State.foldl_pending]

@[simp] theorem State.receiveBytes_pending (p bytes) : (s.receiveBytes p bytes).pending = s.pending := by
  simp [State.receiveBytes, State.foldl_pending]

end Sys2Proof.Machine
end

section
/-! PROOFS. The queue of commands (log 23, 24): a step runs the command at its front; a well-formed command answers a next state
and leaves the rest; the four rows whose operand can belong to another row refuse it, and nothing faults (O1, O2). -/

namespace Sys2Proof.Machine

/-- Settles O1: the command at the front leaves the queue before its effect. -/
theorem stepRunsFrontCommand : Obligations.StepRunsFrontCommand := by
  unfold Obligations.StepRunsFrontCommand
  intro c rest s
  simp only [step, State.setPending_pending, State.setPending_setPending]

/-! ## The four rows with an operand that can be another row's (log 24) -/

theorem exec_utilityHoldOn_refused (p : PortId) (tag : Byte) (s : State) :
    exec (.utilityHoldOn p tag [0]) s = .refused .illFormed := rfl

theorem exec_utilityHoldOff_refused (p : PortId) (tag : Byte) (s : State) :
    exec (.utilityHoldOff p tag [1]) s = .refused .illFormed := rfl

theorem exec_unknownRequestCode_known {code : Byte} (h : knownCode code = true) (p : PortId) (tag : Byte) (pl : List Byte)
    (s : State) : exec (.unknownRequestCode p code tag pl) s = .refused .illFormed := if_pos h

theorem exec_writeConfigUnknownItem_known {pl : List Byte} (h : knownItem pl = true) (p : PortId) (tag : Byte)
    (s : State) : exec (.writeConfigUnknownItem p tag pl) s = .refused .illFormed := if_pos h

/-- A command answers a next state, or is one of these four rows with an operand that is another row's. -/
theorem exec_next_or_refused (c : Instr) (s : State) :
    (∃ t, exec c s = .next t) ∨ exec c s = .refused .illFormed ∧ c.wellFormed = false := by
  cases c with
  | utilityHoldOn p tag pl =>
    by_cases h : pl = [0]
    · subst h
      exact .inr ⟨exec_utilityHoldOn_refused p tag s, rfl⟩
    · exact .inl ⟨_, if_neg h⟩
  | utilityHoldOff p tag pl =>
    by_cases h : pl = [1]
    · subst h
      exact .inr ⟨exec_utilityHoldOff_refused p tag s, rfl⟩
    · exact .inl ⟨_, if_neg h⟩
  | unknownRequestCode p code tag pl =>
    by_cases h : knownCode code = true
    · exact .inr ⟨exec_unknownRequestCode_known h p tag pl s, by simp [Instr.wellFormed, h]⟩
    · exact .inl ⟨_, if_neg h⟩
  | writeConfigUnknownItem p tag pl =>
    by_cases h : knownItem pl = true
    · exact .inr ⟨exec_writeConfigUnknownItem_known h p tag s, by simp [Instr.wellFormed, h]⟩
    · exact .inl ⟨_, if_neg h⟩
  | _ => exact .inl ⟨_, rfl⟩

/-! ## The commands that complete -/

/-- A well-formed known request is its frame's bytes, and these leave the queue. -/
theorem exec_request_completes (c : Instr) (f : RequestFrame) (s : State) (hw : c.wellFormed = true)
    (hf : frameOf c = some f) : Completes s (exec c s) := by
  rw [exec_eq_receiveBytes c f s hw hf]
  exact completes_next (by simp)

/-- Every other well-formed command: a frame with an unknown code, bytes without a good frame, and the event rows. -/
theorem exec_event_completes (c : Instr) (s : State) (hw : c.wellFormed = true) (hf : frameOf c = none) :
    Completes s (exec c s) := by
  cases c with
  | unknownRequestCode p code tag pl =>
    obtain ⟨hn, hk⟩ := Bool.and_eq_true_iff.mp hw
    rw [exec_unknownRequestCode_eq_receiveBytes s p code tag pl ((Bool.not_eq_true' _).mp hk) (of_decide_eq_true hn)]
    exact completes_next (by simp)
  | linkFrameDiscarded p bytes => exact completes_next (by simp)
  | measurementFrame bytes => exact execMeasurementFrame_completes s bytes
  | frameDeadlineExpiry => exact execFrameDeadlineExpiry_completes s
  | nauEpochIncrement => exact execNauEpochIncrement_completes s
  | ecuEpochIncrement => exact execEcuEpochIncrement_completes s
  | ipuSplitIncrement => exact execIpuSplitIncrement_completes s
  | ipuMissedEpochReport => exact execIpuMissedEpochReport_completes s
  | ecuMfpStateReport => exact execEcuMfpStateReport_completes s
  | nauIntervalClose => exact execNauIntervalClose_completes s
  | mfpIntervalClose => exact execMfpIntervalClose_completes s
  | nauDemandReport => exact execNauDemandReport_completes s
  | clockAdvance => exact execClockAdvance_completes s
  | ipuDueEvent => exact execIpuDueEvent_completes s
  | tcuDueEvent => exact execTcuDueEvent_completes s
  | bfuDueEvent => exact execBfuDueEvent_completes s
  | ecuDueEvent => exact execEcuDueEvent_completes s
  | ipuChangeNotice => exact execIpuChangeNotice_completes s
  | tcuChangeNotice => exact execTcuChangeNotice_completes s
  | bfuChangeNotice => exact execBfuChangeNotice_completes s
  | ecuChangeNotice => exact execEcuChangeNotice_completes s
  | ipuBandNotice => exact execIpuBandNotice_completes s
  | ipuActivationNotice => exact execIpuActivationNotice_completes s
  | ipuInterlockReport => exact execIpuInterlockReport_completes s
  | ipuTamperReport => exact execIpuTamperReport_completes s
  | tcuIntervalLengthReport => exact execTcuIntervalLengthReport_completes s
  | sessionTimerExpiry => exact execSessionTimerExpiry_completes s
  | coverOpening => exact execCoverOpening_completes s
  | coverClosing => exact execCoverClosing_completes s
  | portCoverReport => exact execPortCoverReport_completes s
  | attentionReport p m => exact execAttentionReport_completes s p m
  | arrayGrant => exact execArrayGrant_completes s
  | unitImagePart u => exact execUnitImagePart_completes s u
  | operationCompletion r => exact execOperationCompletion_completes s r
  | profileAppendSettled => exact execProfileAppendSettled_completes s
  | profileEraseGrant => exact execProfileEraseGrant_completes s
  | profileEraseOutcome => exact execProfileEraseOutcome_completes s
  | profileReadCompletion => exact execProfileReadCompletion_completes s
  | frozenSetWriteCompletion => exact execFrozenSetWriteCompletion_completes s
  | frozenSetWriteRefusal => exact execFrozenSetWriteRefusal_completes s
  | frozenSetEraseGrant => exact execFrozenSetEraseGrant_completes s
  | frozenSetEraseOutcome => exact execFrozenSetEraseOutcome_completes s
  | frozenReadCompletion => exact execFrozenReadCompletion_completes s
  | calendarDiscardEraseOutcome => exact execCalendarDiscardEraseOutcome_completes s
  | calendarCommitWriteOutcome => exact execCalendarCommitWriteOutcome_completes s
  | nettingModeWriteCompletion => exact execNettingModeWriteCompletion_completes s
  | slotMapWriteCompletion => exact execSlotMapWriteCompletion_completes s
  | intervalLengthWriteCompletion => exact execIntervalLengthWriteCompletion_completes s
  | intervalLengthRestoreCompletion => exact execIntervalLengthRestoreCompletion_completes s
  | billingDayWriteCompletion => exact execBillingDayWriteCompletion_completes s
  | ecuConfigWriteCompletion => exact execEcuConfigWriteCompletion_completes s
  | thresholdWriteCompletion => exact execThresholdWriteCompletion_completes s
  | protectionWriteCompletion => exact execProtectionWriteCompletion_completes s
  | lifecycleMarkCompletion => exact execLifecycleMarkCompletion_completes s
  | commandedImageCompletion => exact execCommandedImageCompletion_completes s
  | mainsGood => exact execMainsGood_completes s
  | mainsFail => exact execMainsFail_completes s
  | holdupCommitEnd => exact execHoldupCommitEnd_completes s
  | supplyEnd => exact execSupplyEnd_completes s
  | gatingTimerExpiry => exact execGatingTimerExpiry_completes s
  | externalReset => exact execExternalReset_completes s
  | resumption => exact execResumption_completes s
  | ipuResumption => exact execIpuResumption_completes s
  | tcuResumption => exact execTcuResumption_completes s
  | bfuResumption => exact execBfuResumption_completes s
  | ecuResumption => exact execEcuResumption_completes s
  | serviceEntry => exact execServiceEntry_completes s
  | cvmResumption => exact execCvmResumption_completes s
  | retentionMarkLost => exact execRetentionMarkLost_completes s
  | _ => cases hf

theorem exec_completes (c : Instr) (s : State) (hw : c.wellFormed = true) : Completes s (exec c s) := by
  cases hf : frameOf c with
  | some f => exact exec_request_completes c f s hw hf
  | none => exact exec_event_completes c s hw hf

/-- Settles O2: a command that completes is one of `exec_completes`, and what does not complete is one of the four rows. -/
theorem wellFormedCommandCompletes : Obligations.WellFormedCommandCompletes := by
  unfold Obligations.WellFormedCommandCompletes
  refine ⟨exec_completes, fun c s f hfault => ?_, fun c s r hr => ?_, fun p tag code payload bytes s => ?_⟩
  · rcases exec_next_or_refused c s with ⟨t, ht⟩ | ⟨hi, _⟩
    · exact nomatch ht.symm.trans hfault
    · exact nomatch hi.symm.trans hfault
  · rcases exec_next_or_refused c s with ⟨t, ht⟩ | ⟨hi, hw⟩
    · exact nomatch ht.symm.trans hr
    · cases hi.symm.trans hr
      exact ⟨rfl, hw⟩
  · exact ⟨exec_utilityHoldOn_refused p tag s, exec_utilityHoldOff_refused p tag s,
      fun h => exec_unknownRequestCode_known h p tag payload s,
      fun h => exec_writeConfigUnknownItem_known h p tag s, rfl⟩

end Sys2Proof.Machine
end
